-- ==== Sys2Proof/Word.lean ====
section
/-! DEFINITION. The word types of the part: bytes, 16-bit counts, 32-bit times and counters. -/

namespace Sys2Proof

/-- One byte of a record in host memory. -/
abbrev Byte := BitVec 8

/-- A 16-bit count, the unit of a reading, a limit or a peak (R4). -/
abbrev Count := BitVec 16

/-- A monitor time in milliseconds, wrapping at 2^32 (R131). -/
abbrev Time := BitVec 32

/-- A 32-bit counter that wraps from 2^32 − 1 to 0 (R38, R129). -/
abbrev Counter := BitVec 32

end Sys2Proof
end

