-- ==== Sys2Proof/Syntax.lean ====
section
/-! DEFINITION. The commands of the part: one constructor for each row of spec/opcode_table.json,
in the table's order. A row that takes a request has no operand: the request stands in the staged
request (R146). -/

namespace Sys2Proof

/-- A command, one happening of the part, taken whole. -/
inductive Instr where
  /-- RESET_N (R186). -/
  | powerOnReset
  /-- A PCIe hot or fundamental reset (R185). -/
  | pcieReset
  /-- A CONTROL write of `value` with RESET set (R182, R185). -/
  | controlReset (value : BitVec 32)
  /-- A CONTROL write of `value` with ENABLE set (R174, R182). -/
  | enableSet (value : BitVec 32)
  /-- A CONTROL write of `value` with ENABLE clear (R174, R182). -/
  | enableClear (value : BitVec 32)
  /-- A CONTROL write of `value`, seen for its interrupt enables (R182). -/
  | interruptEnablesWrite (value : BitVec 32)
  /-- A write of INT_CAUSE (R183). -/
  | intCauseWrite (value : BitVec 32)
  /-- A write of SETUP (R167). -/
  | setupWrite (value : BitVec 32)
  /-- A write of REQ_TAIL (R176, R189). -/
  | reqTailWrite (value : BitVec 32)
  /-- A write of CPL_HEAD (R177, R189). -/
  | cplHeadWrite (value : BitVec 32)
  /-- A write of EVT_HEAD (R177, R189). -/
  | evtHeadWrite (value : BitVec 32)
  /-- A write of `width` bytes at `offset` of the register window that R181 ignores. -/
  | registerWriteIgnored (offset : Nat) (width : Nat) (value : BitVec 32)
  /-- The setup read ends with the 128 bytes of the setup block, or with a bus error (`none`). -/
  | setupReadDone (block : Option (BitVec 1024))
  /-- The memory arbiter makes a grant (R179). -/
  | memoryGrant
  /-- The request fetch ends without error with the 32 bytes of the record (R146). -/
  | requestFetchDone (record : BitVec 256)
  /-- A completion write ends without error (R44). -/
  | completionWriteDone
  /-- An event write ends without error (R43, R45). -/
  | eventWriteDone
  /-- A dump record write ends without error (R159). -/
  | dumpWriteDone
  /-- A dump record write ends with a bus error (R162). -/
  | dumpWriteBusError
  /-- A ring access ends with a bus error (R173). -/
  | ringBusError
  /-- The test of R172 holds and the interface leaves DRAINING. -/
  | drainingExit
  | nop
  | sync
  | configure
  | start
  | stop
  | defineChannel
  | retireChannel
  | setLimits
  | readChannel
  | freshRead
  | rescan
  | acceptStation
  | dump
  | rearmTrip
  | forceTrip
  /-- The take of a staged request whose kind field names no known kind (R149). -/
  | unknownKind
  /-- A 1 ms tick (R131). -/
  | monitorTimeTick
  | freshnessStep
  | tripGraceExpiry
  | eventModerationDelay
  | completionModerationDelay
  | sweepTimerFiring
  | freshReadTimeout
  | pollWaitExpiry
  | guardPollDue
  | guardPollWaitExpiry
  | guardPollTimeout
  | guardReprobeDue
  | recoveryRetryWaitExpiry
  /-- The link arbiter makes a grant (R89). -/
  | linkGrant
  /-- A response: the bits sampled on DB_DAT after its start mark, in the order clocked in (R115). -/
  | responseReceived (bits : List Bool)
  /-- The response window closes with no start mark (R116). -/
  | responseWindowExpiry
  /-- A start check fails (R118). `outcomeFirst` says whether the MISSED outcome is taken before the
  LINE_STUCK report; R92 and R118 leave that order open. -/
  | startCheckTimeout (outcomeFirst : Bool)
  | lineMonitorStuck
  | dbDatReleased
  | dbAttnAsserted
  | dbAttnReleased
  | releaseSequenceEnd
  | broadcastResetSettleEnd
  | dbDatLow
  /-- The host writes the PCIe port's configuration (R180, R183). -/
  | portConfigurationWrite (busMastering messages : Bool)
  | pcieLinkDown
  | pcieLinkUp
  deriving DecidableEq, Repr

end Sys2Proof
end

