-- ==== Sys2Proof/Config.lean ====
section
/-! DEFINITION. The constants the manual fixes for every PJ-2412. The manual leaves no value open
that a step computes with, so there is no free value here. -/

namespace Sys2Proof.Config

/-- Channels in the channel table (R1). -/
def channelCount : Nat := 128
/-- Stations with a record, addresses 1 to 12 (R63). -/
def stationCount : Nat := 12
/-- Job slots of the request engine (R157). -/
def slotCount : Nat := 4
/-- The fixed limit of the guard input, a SIGNED count (R55). -/
def guardLimit : Int := 1760
/-- The guard poll period in milliseconds (R133). -/
def guardPollPeriod : Nat := 250
/-- The time a guard poll has to reach its read step (R133). -/
def guardPollLimit : Nat := 200
/-- The time a FRESH_READ has from its take (R107). -/
def freshReadLimit : Nat := 200
/-- The wait between two STATUS polls (R105, R133). -/
def pollWait : Nat := 2
/-- The wait after a release sequence that found the line still stuck (R142). -/
def retryWait : Nat := 2000
/-- A freshness step is made when monitor time is a multiple of this (R16, R131). -/
def freshnessPeriod : Nat := 10
/-- The largest hysteresis a set of limits may have (R5). -/
def maxHysteresis : Nat := 4095
/-- The miss count at which an ADOPTED station is lost (R77). -/
def missLimit : Nat := 3
/-- Empty attention passes in a row that mark attention stuck (R101). -/
def emptyPassLimit : Nat := 3
/-- The coalesced count and the cause count saturate here (R32, R49). -/
def countCeiling : Nat := 255

end Sys2Proof.Config
end

