-- ==== Sys2Proof/Machine/State.lean ====
section
/-! DEFINITION. The state of the part, block by block, and its value after power-on reset. -/

namespace Sys2Proof.Machine

/-! ## Enumerations (10_record_and_frame_layouts.md, 10.1) -/

/-- The condition of a channel (01, section 1.4). -/
inductive Condition where
  | unbound | pending | normal | lowAlarm | highAlarm | critical | sensorFault | stale | unreachable
  deriving DecidableEq, Repr

/-- The reasons of channels and stations, and the two station notes (R6, R27, R64). -/
inductive Reason where
  | silent | absent | rejected | noPoint
  | openInput | range | convertErr | stationFault
  | missed | linkFault | unsupported | malformed | changed | protocol
  | restarted
  deriving DecidableEq, Repr

/-- The quality of a point (R123). -/
inductive Quality where
  | valid | openInput | range | convertErr
  deriving DecidableEq, Repr

/-- How a count is read (R4). -/
inductive Format where
  | signed | unsigned
  deriving DecidableEq, Repr

/-- The class of a channel (01, table 1.1). -/
inductive ChannelClass where
  | routine | urgent
  deriving DecidableEq, Repr

/-- The state of a station (04, section 4.2). -/
inductive StationState where
  | unknown | absent | adopted | silent | rejected
  deriving DecidableEq, Repr

/-- The trip latch (R48). -/
inductive Latch where
  | clear | tripped | rearmWait
  deriving DecidableEq, Repr

/-- The kinds of trip cause (R49). -/
inductive CauseKind where
  | critical | memberFault | link | guardHot | guardLost | forced
  deriving DecidableEq, Repr

/-- The reasons of a link fault (R136). -/
inductive LinkReason where
  | lineStuck | collectiveSilence
  deriving DecidableEq, Repr

/-- The monitor state (R130). -/
inductive MonitorState where
  | guarding | stopped | enumerating | monitoring | recovering
  deriving DecidableEq, Repr

/-- The interface state (09, section 9.1). -/
inductive InterfaceState where
  | off | loading | live | draining | halted
  deriving DecidableEq, Repr

/-- The fifteen request kinds (10.1). -/
inductive RequestKind where
  | nop | sync | configure | start | stop | defineChannel | retireChannel | setLimits | readChannel
  | freshRead | rescan | acceptStation | dump | rearmTrip | forceTrip
  deriving DecidableEq, Repr

/-- The status of a completion (R151). -/
inductive Status where
  | ok | badKind | badField | badState | badChannel | notBound | alreadyBound | pointTaken | badPoint
  | badLimits | busy | windowFault | busError | stationLost | linkReset | timeout | aborted
  deriving DecidableEq, Repr

/-- The subject of a dump (R158). -/
inductive DumpSubject where
  | channels | stations | summary
  deriving DecidableEq, Repr

/-- The halt code of the FAULT register (R184). -/
inductive HaltCode where
  | noFault | setupBusError | ringSize | ringAlign | windowForm | ringWindow | moderation | ringBusError
  deriving DecidableEq, Repr

/-- The structure of the FAULT register (R184). -/
inductive RingStructure where
  | setup | request | completion | event
  deriving DecidableEq, Repr

/-- The permission of a window (R169, 10.1). -/
structure Permission where
  read : Bool
  write : Bool
  deriving DecidableEq, Repr

/-- Where an event comes from (02, section 2.1). -/
inductive Source where
  | channel (n : Nat)
  | station (address : Nat)
  | trip
  | link
  deriving DecidableEq, Repr

/-! ## The channel table (01, table 1.1) -/

/-- The point a channel is bound to: station 1–12, function 0–3, point 0–7 (R2). -/
structure Location where
  station : Nat
  fn : Nat
  point : Nat
  deriving DecidableEq, Repr

/-- A set of limits with its hysteresis (R4, R5). -/
structure Limits where
  criticalLow : Option Count
  low : Option Count
  high : Option Count
  criticalHigh : Option Count
  hysteresis : BitVec 16
  deriving DecidableEq, Repr

/-- The fields of a channel that are present while it is bound (01, table 1.1). -/
structure Binding where
  loc : Location
  format : Format
  cls : ChannelClass
  member : Bool
  limits : Limits
  deriving DecidableEq, Repr

/-- The last reading taken: value, quality and update time, present together (R7, 10.4). -/
structure LastReading where
  value : Count
  quality : Quality
  time : Time
  deriving DecidableEq, Repr

/-- The peaks, set and cleared together (R9, 10.6). -/
structure Peaks where
  min : Count
  max : Count
  deriving DecidableEq, Repr

/-- A channel record (R1). It is bound exactly while `binding` is present. -/
structure Channel where
  generation : BitVec 8
  binding : Option Binding
  condition : Condition
  reason : Option Reason
  last : Option LastReading
  pendingSince : Option Time
  peaks : Option Peaks
  deriving DecidableEq, Repr

/-- The reset value of a channel record (R1). -/
def Channel.reset : Channel :=
  { generation := 0, binding := none, condition := .unbound, reason := none, last := none,
    pendingSince := none, peaks := none }

/-! ## The station roster (04, section 4.1) -/

/-- The activities that issue transactions, and that can hold a probe (R67, R88). `job` is the
running link job. -/
inductive Activity where
  | guardStartup | enumeration | recovery | attention | job | sweep | guardPoll | guardReprobe
  deriving DecidableEq, Repr

/-- Function enables and attention enables, one bit for each function (R82). -/
structure Plan where
  fns : BitVec 4
  attn : BitVec 4
  deriving DecidableEq, Repr

/-- The part of the identity that ID0 gives (R68). -/
structure ClassRev where
  cls : Byte
  rev : Byte
  deriving DecidableEq, Repr

/-- The part of the identity that ID1 gives: function count and points per function (R69, R190). -/
structure Shape where
  fns : BitVec 4
  pts : BitVec 4
  deriving DecidableEq, Repr

/-- A fingerprint (R74). -/
structure Fingerprint where
  classRev : ClassRev
  shape : Shape
  deriving DecidableEq, Repr

/-- A station record (R63). -/
structure Station where
  state : StationState
  reason : Option Reason
  classRev : Option ClassRev
  shape : Option Shape
  fingerprint : Option Fingerprint
  missCount : Nat
  lastHeard : Option Time
  failed : BitVec 16
  holder : Option Activity
  reprobeAt : Option Time
  plan : Plan
  planApplied : Bool
  owed : BitVec 4
  raisedAgain : BitVec 4
  deriving DecidableEq, Repr

/-- The reset value of a station record (R63). -/
def Station.reset : Station :=
  { state := .unknown, reason := none, classRev := none, shape := none, fingerprint := none,
    missCount := 0, lastHeard := none, failed := 0, holder := none, reprobeAt := none,
    plan := { fns := 0, attn := 0 }, planApplied := false, owed := 0, raisedAgain := 0 }

/-! ## The event unit (02) -/

/-- A change notice as it reaches the event unit (R28). `classUrgent` is what the urgency test needs
of a channel; it is false for the other kinds. -/
structure Notice where
  source : Source
  generation : BitVec 8
  before : Byte
  after : Byte
  detail : Byte
  value : Count
  time : Time
  classUrgent : Bool
  deriving DecidableEq, Repr

/-- A backlog entry, equally an event record without its lap flag (R30). -/
structure Entry where
  source : Source
  generation : BitVec 8
  before : Byte
  after : Byte
  detail : Byte
  urgent : Bool
  count : Nat
  first : Time
  value : Count
  offset : BitVec 16
  deriving DecidableEq, Repr

/-- The event unit (R31, R38). -/
structure EventUnit where
  backlog : List Entry
  posted : Counter
  coalesced : Counter
  discarded : Counter
  deriving DecidableEq, Repr

/-! ## The trip unit (03, section 3.1) -/

/-- The cause record (R49). -/
structure CauseRecord where
  kind : CauseKind
  source : Byte
  time : Time
  count : Nat
  deriving DecidableEq, Repr

/-- The trip unit. `marks` holds one qualification mark for each channel number. -/
structure TripUnit where
  latch : Latch
  cause : Option CauseRecord
  rearmTime : Option Time
  marks : BitVec 128
  guardQualified : Bool
  faultStart : Option Time
  linkCauseRaised : Bool
  deriving DecidableEq, Repr

/-! ## Probes, visits and the link scheduler (04, section 4.3; 05) -/

/-- The four steps of a probe (R68 to R71). -/
inductive ProbeStep where
  | id0 | id1 | control | status
  deriving DecidableEq, Repr

/-- A probe in progress: its next step, and the plan its step 3 wrote (R70). -/
structure Probe where
  address : Nat
  step : ProbeStep
  written : Plan
  deriving DecidableEq, Repr

/-- The position of an activity that probes addresses in ascending order (R76, R140, R142):
the last address finished, and the probe in progress. -/
structure ProbeWalk where
  last : Nat
  probe : Option Probe
  deriving DecidableEq, Repr

/-- The stage of a visit (R90, R96, R100): what the visit stands at. -/
inductive VisitStage where
  /-- before the first transaction -/
  | begin
  /-- the STATUS read is next -/
  | status
  /-- the plan write of R86 is next -/
  | replan
  /-- the functions come next, none read yet -/
  | functions
  /-- the QUALITY of `fn` and its points up to `last` have been read -/
  | inFunction (fn : Nat) (last : Option Nat)
  deriving DecidableEq, Repr

/-- A visit to a station (R90): the FAULT and the qualities seen, and how the present function stands. -/
structure Visit where
  address : Nat
  stage : VisitStage
  fault : Bool
  quality : Option (BitVec 16)
  allDone : Bool
  reported : Bool
  deriving DecidableEq, Repr

/-- The position of the routine sweep (R95, R98). -/
inductive SweepPosition where
  | after (address : Nat)
  | visiting (v : Visit)
  | reprobesAfter (address : Nat)
  | probing (p : Probe)
  deriving DecidableEq, Repr

/-- The routine sweep (R93). -/
structure Sweep where
  beginTime : Time
  position : SweepPosition
  deriving DecidableEq, Repr

/-- The position of the attention pass (R99). -/
inductive PassPosition where
  | after (address : Nat)
  | visiting (v : Visit)
  deriving DecidableEq, Repr

/-- The attention pass, with the mark that it has found a flag (R100). -/
structure Pass where
  position : PassPosition
  foundFlag : Bool
  deriving DecidableEq, Repr

/-- The sweep timer while it runs (R93). -/
structure SweepTimer where
  next : Time
  period : Nat
  deriving DecidableEq, Repr

/-- What a FRESH_READ does next (R105). -/
inductive FreshStage where
  | convert
  | poll
  | waiting (since : Time)
  | replan
  | quality
  | reading
  deriving DecidableEq, Repr

/-- A FRESH_READ in the link-job queue (R104 to R107). -/
structure FreshRead where
  channel : Nat
  generation : BitVec 8
  taken : Time
  stage : FreshStage
  acked : Bool
  flagSeen : Bool
  fault : Bool
  quality : Option (BitVec 16)
  deriving DecidableEq, Repr

/-- The work of a link job. -/
inductive LinkWork where
  | fresh (f : FreshRead)
  | rescan (set : BitVec 12) (walk : ProbeWalk)
  deriving DecidableEq, Repr

/-- A job of the link-job queue, named by its take order (R103). -/
structure LinkJob where
  order : Nat
  abandoned : Bool
  work : LinkWork
  deriving DecidableEq, Repr

/-- The link scheduler (05, head table). -/
structure Scheduler where
  timer : Option SweepTimer
  sweep : Option Sweep
  owedSweep : Bool
  pass : Option Pass
  emptyPasses : Nat
  attnStuck : Bool
  jobs : List LinkJob
  sweepsCompleted : Counter
  sweepOverruns : Counter
  attentionPasses : Counter
  deriving DecidableEq, Repr

/-! ## The Drop Bus controller (06, section 6.1) -/

/-- The tag of a reading transaction (R91): channel and generation at issue, with the quality and
the FAULT that the same visit saw. `quality` is absent when the QUALITY read was missed. -/
structure ReadingTag where
  channel : Nat
  generation : BitVec 8
  quality : Option Quality
  fault : Bool
  deriving DecidableEq, Repr

/-- What a transaction was issued for. A probe step carries the plan that its step 3 wrote. -/
inductive Purpose where
  | probeStep (step : ProbeStep) (written : Plan)
  | planWrite (plan : Plan)
  | convertWrite
  | statusRead
  | qualityRead (fn : Nat)
  | readingRead (fn point : Nat) (tag : Option ReadingTag)
  deriving DecidableEq, Repr

/-- The phases of an attempt in which a happening can find it (R116). -/
inductive Phase where
  | startCheck
  | awaiting
  deriving DecidableEq, Repr

/-- The transaction in progress. `data` is present for a WRITE. `orphan` says that the activity it
was issued for has ended (R92). -/
structure Transaction where
  address : Nat
  register : Nat
  data : Option (BitVec 16)
  activity : Activity
  purpose : Purpose
  orphan : Bool
  second : Bool
  phase : Phase
  deriving DecidableEq, Repr

/-- The recovery primitives (R127, R128). -/
inductive PrimitiveKind where
  | release
  | broadcastStartCheck
  | broadcastSettle
  deriving DecidableEq, Repr

/-- The primitive in progress. `discard` says that its report will be discarded (R135, R138, R144). -/
structure Primitive where
  kind : PrimitiveKind
  discard : Bool
  deriving DecidableEq, Repr

/-- The Drop Bus controller and the levels of its two input wires. `lastFrame` is the model's own
observation of the last frame sent. -/
structure DropBus where
  txn : Option Transaction
  primitive : Option Primitive
  stuckReported : Bool
  transactions : Counter
  retries : Counter
  missed : Counter
  datLow : Bool
  attnLow : Bool
  lastFrame : List Bool
  deriving DecidableEq, Repr

/-! ## The monitor controller (07, section 7.1) -/

/-- The monitor parameters (07, section 7.5). Bit a − 1 of the mask stands for address a. -/
structure Params where
  sweepPeriod : Nat
  staleLimit : Nat
  reprobeInterval : Nat
  tripGrace : Nat
  stationMask : BitVec 12
  attentionUse : Bool
  deriving DecidableEq, Repr

/-- The guard stage (R132 to R135). In start-up the probe is absent until the broadcast reset has ended. -/
inductive GuardStage where
  | startup (resetDone : Bool) (probe : Option Probe)
  | watching
  | lineRecovery
  deriving DecidableEq, Repr

/-- What a guard poll does next (R133). -/
inductive GuardPollStage where
  | convert
  | poll
  | waiting (since : Time)
  | replan
  | quality
  | reading
  deriving DecidableEq, Repr

/-- A guard poll in progress (R133). -/
structure GuardPoll where
  stage : GuardPollStage
  beginTime : Time
  fault : Bool
  quality : BitVec 16
  deriving DecidableEq, Repr

/-- The recovery stage (R142). -/
inductive RecoveryStage where
  | releaseRound
  | retryWait (since : Time)
  | broadcastReset
  | probing (walk : ProbeWalk)
  deriving DecidableEq, Repr

/-- Recovery, in RECOVERING and in guard line recovery (07, section 7.1). -/
structure Recovery where
  stage : RecoveryStage
  reason : LinkReason
  deriving DecidableEq, Repr

/-- The monitor controller. `guardActive` and `guardStage` are its guard state; `guardReprobe` is the
reprobe of station 1 that has become due, absent probe until its first step (R134). -/
structure Monitor where
  state : MonitorState
  params : Params
  time : Time
  rosterComplete : Bool
  guardActive : Bool
  guardStage : Option GuardStage
  guardPoll : Option GuardPoll
  nextGuardPoll : Option Time
  guardReprobe : Option ProbeWalk
  enumeration : Option ProbeWalk
  recovery : Option Recovery
  lineFaulted : Bool
  attnPartStuck : Bool
  rounds : Counter
  deriving DecidableEq, Repr

/-! ## The request engine (08, section 8.1) -/

/-- A fetched request and the slot it was fetched from (R146). -/
structure Staged where
  record : BitVec 256
  slot : Nat
  deriving DecidableEq, Repr

/-- The progress of a dump (R159, R160). -/
inductive DumpPhase where
  /-- a NEXT_SWEEP dump before its capture; `sweepAtTake` while the sweep present at take runs -/
  | waiting (sweepAtTake : Bool)
  /-- writing; `begun` is the begin time of the captured sweep, for NEXT_SWEEP -/
  | writing (begun : Option Time)
  deriving DecidableEq, Repr

/-- A dump in a job slot (R158). -/
structure DumpJob where
  subject : DumpSubject
  nextSweep : Bool
  first : Nat
  count : Nat
  buffer : BitVec 64
  written : Nat
  phase : DumpPhase
  deriving DecidableEq, Repr

/-- The progress of a job in a slot. A link job's position stands in the link-job queue; here its
generation at take, for its completion (R154). -/
inductive JobWork where
  | link (generation : BitVec 8)
  | dump (d : DumpJob)
  | sync (waitsFor : List Nat)
  deriving DecidableEq, Repr

/-- A job in a slot (R157), named by its take order. -/
structure Job where
  order : Nat
  kind : RequestKind
  tag : BitVec 16
  abandoned : Bool
  work : JobWork
  deriving DecidableEq, Repr

/-- The request engine. `jobs` lists the occupied slots in take order. -/
structure RequestEngine where
  staged : Option Staged
  jobs : List Job
  taken : Nat
  takeOrder : Nat
  capture : List Channel
  dumpQueue : List Nat
  deriving DecidableEq, Repr

/-! ## Completions, the ring engine and the memory master (08, section 8.4; 09) -/

/-- A completion record without its lap flag (R154, 10.4). `stateOrCondition` is the low half of
byte 10. -/
structure Completion where
  kind : Byte
  tag : BitVec 16
  status : Status
  generation : BitVec 8
  head : BitVec 16
  value : BitVec 16
  stateOrCondition : Nat
  reason : Option Reason
  quality : Quality
  absent : Bool
  discarded : Bool
  notTripped : Bool
  time : Time
  deriving DecidableEq, Repr

/-- A claimed completion waiting to be written (R152). -/
structure CompletionWrite where
  slot : Nat
  lap : Bool
  record : Completion
  deriving DecidableEq, Repr

/-- A claimed event record waiting to be written (R33). -/
structure EventWrite where
  slot : Nat
  lap : Bool
  record : Entry
  deriving DecidableEq, Repr

/-- A moderation counter and its timer, absent while stopped (R43, R44). -/
structure Moderation where
  count : Nat
  since : Option Time
  deriving DecidableEq, Repr

/-- The loaded ring description (R170). The exponents of a loaded description are from 4 to 12. -/
structure RingDescription where
  requestBase : BitVec 64
  completionBase : BitVec 64
  eventBase : BitVec 64
  requestExp : Nat
  completionExp : Nat
  eventExp : Nat
  completionCount : Nat
  completionDelay : Nat
  eventCount : Nat
  eventDelay : Nat
  deriving DecidableEq, Repr

/-- The ring engine (09, head table). Positions and indices are slot numbers. -/
structure RingEngine where
  iface : InterfaceState
  desc : Option RingDescription
  requestHead : Nat
  completionTail : Nat
  eventTail : Nat
  completionLap : Bool
  eventLap : Bool
  requestTail : Nat
  completionHead : Nat
  eventHead : Nat
  completionMod : Moderation
  eventMod : Moderation
  completionWrites : List CompletionWrite
  eventWrites : List EventWrite
  deriving DecidableEq, Repr

/-- One of the four windows (R169). -/
structure Window where
  base : BitVec 64
  length : BitVec 64
  permission : Permission
  deriving DecidableEq, Repr

/-- What an access in flight is for (R179). -/
inductive AccessKind where
  | setupRead
  | completionWrite (slot : Nat)
  | eventWrite (slot : Nat) (urgent : Bool)
  /-- `discard` says that the record will be discarded when the read ends (R146) -/
  | requestFetch (slot : Nat) (discard : Bool)
  | dumpWrite (order : Nat)
  deriving DecidableEq, Repr

/-- The access in flight: its address, the bytes it writes (none for a read), and whether the port
could send it at its grant (R180). -/
structure Access where
  kind : AccessKind
  address : BitVec 64
  length : Nat
  bytes : List Byte
  sendable : Bool
  deriving DecidableEq, Repr

/-- The memory master (R178, R179). -/
structure MemoryMaster where
  windows : Vector Window 4
  inFlight : Option Access
  deriving DecidableEq, Repr

/-! ## The register port and the PCIe port (09, section 9.9) -/

/-- The five interrupt causes, or their five enables (R183). -/
structure Causes where
  completion : Bool
  event : Bool
  urgent : Bool
  fault : Bool
  index : Bool
  deriving DecidableEq, Repr

/-- No cause at all. -/
def Causes.none : Causes :=
  { completion := false, event := false, urgent := false, fault := false, index := false }

/-- The FAULT register (R184). -/
structure FaultRegister where
  code : HaltCode
  struct : RingStructure
  index : Nat
  deriving DecidableEq, Repr

/-- The value of FAULT that reports no fault (R184). -/
def FaultRegister.none : FaultRegister := { code := .noFault, struct := .setup, index := 0 }

/-- The register port: what CONTROL, INT_CAUSE, SETUP and FAULT hold. The other four registers are
views of other state (R181). Bits 6 to 0 of `setup` are 0 (R167). -/
structure RegisterPort where
  enable : Bool
  intEnable : Causes
  intCause : Causes
  setup : BitVec 32
  fault : FaultRegister
  deriving DecidableEq, Repr

/-- The PCIe port's configuration and link (R180, R183). `messagesSent` is the model's own
observation: how many interrupt messages the port has sent. -/
structure PciePort where
  busMastering : Bool
  messages : Bool
  linkUp : Bool
  messagesSent : Nat
  deriving DecidableEq, Repr

/-! ## The whole state -/

/-- The state of the part, and the queue of commands that wait, first in first out. -/
structure State where
  pending : List Instr
  channels : Vector Channel 128
  stations : Vector Station 12
  evt : EventUnit
  trip : TripUnit
  sched : Scheduler
  bus : DropBus
  mon : Monitor
  req : RequestEngine
  ring : RingEngine
  mem : MemoryMaster
  port : RegisterPort
  pcie : PciePort
  deriving DecidableEq, Repr

/-- The part has no fault that stops it: every failure the manual describes leaves a next state. -/
inductive Fault where
  deriving DecidableEq, Repr

/-- The reasons a command has no meaning. -/
inductive Refusal where
  /-- Raised by an arm of exec for a command that is not modelled yet. No arm raises it. Safe: the
  model stops where the hardware goes on. -/
  | notModelled (mnemonic : String)
  deriving DecidableEq, Repr

/-- What a command answers. -/
abbrev Out := Host.Outcome State Fault Refusal

/-! ## Reset values -/

/-- The monitor parameters after reset (07, section 7.5). -/
def Params.reset : Params :=
  { sweepPeriod := 1000, staleLimit := 3000, reprobeInterval := 500, tripGrace := 250,
    stationMask := BitVec.allOnes 12, attentionUse := true }

/-- The event unit after reset (R47). -/
def EventUnit.reset : EventUnit := { backlog := [], posted := 0, coalesced := 0, discarded := 0 }

/-- The trip unit after power-on reset (R62). -/
def TripUnit.reset : TripUnit :=
  { latch := .clear, cause := none, rearmTime := none, marks := 0, guardQualified := false,
    faultStart := none, linkCauseRaised := false }

/-- The link scheduler after reset (R111). -/
def Scheduler.reset : Scheduler :=
  { timer := none, sweep := none, owedSweep := false, pass := none, emptyPasses := 0,
    attnStuck := false, jobs := [], sweepsCompleted := 0, sweepOverruns := 0, attentionPasses := 0 }

/-- The Drop Bus controller after power-on reset (06, section 6.1). DESIGN CHOICE, unsafe: both wires
are released (log entry 4). -/
def DropBus.reset : DropBus :=
  { txn := none, primitive := none, stuckReported := false, transactions := 0, retries := 0,
    missed := 0, datLow := false, attnLow := false, lastFrame := [] }

/-- The monitor controller after power-on reset (R130). -/
def Monitor.reset : Monitor :=
  { state := .guarding, params := Params.reset, time := 0, rosterComplete := false,
    guardActive := true, guardStage := some (.startup false none), guardPoll := none,
    nextGuardPoll := none, guardReprobe := none, enumeration := none, recovery := none,
    lineFaulted := false, attnPartStuck := false, rounds := 0 }

/-- The request engine after reset (R145). -/
def RequestEngine.reset : RequestEngine :=
  { staged := none, jobs := [], taken := 0, takeOrder := 0, capture := [], dumpQueue := [] }

/-- A moderation counter at 0 with its timer stopped (R46, R47). -/
def Moderation.idle : Moderation := { count := 0, since := none }

/-- The ring engine after reset (09, head table). -/
def RingEngine.reset : RingEngine :=
  { iface := .off, desc := none, requestHead := 0, completionTail := 0, eventTail := 0,
    completionLap := true, eventLap := true, requestTail := 0, completionHead := 0, eventHead := 0,
    completionMod := Moderation.idle, eventMod := Moderation.idle,
    completionWrites := [], eventWrites := [] }

/-- A window of permission none, base and length 0 (09, section 9.6). -/
def Window.reset : Window :=
  { base := 0, length := 0, permission := { read := false, write := false } }

/-- The memory master after reset. -/
def MemoryMaster.reset : MemoryMaster :=
  { windows := Vector.replicate 4 Window.reset, inFlight := none }

/-- The register port after reset (09, section 9.9). -/
def RegisterPort.reset : RegisterPort :=
  { enable := false, intEnable := Causes.none, intCause := Causes.none, setup := 0,
    fault := FaultRegister.none }

/-- The PCIe port after power-on reset. PRESUMED, unsafe: bus mastering and messages start disabled,
as in every PCIe function; DESIGN CHOICE, unsafe: the link is up (log entry 5). -/
def PciePort.reset : PciePort :=
  { busMastering := false, messages := false, linkUp := true, messagesSent := 0 }

/-- The part right after power-on reset (R186), with no command waiting. -/
def State.reset : State :=
  { pending := [], channels := Vector.replicate 128 Channel.reset,
    stations := Vector.replicate 12 Station.reset, evt := EventUnit.reset, trip := TripUnit.reset,
    sched := Scheduler.reset, bus := DropBus.reset, mon := Monitor.reset,
    req := RequestEngine.reset, ring := RingEngine.reset, mem := MemoryMaster.reset,
    port := RegisterPort.reset, pcie := PciePort.reset }

end Sys2Proof.Machine
end

