-- ==== Sys2Proof/Machine/Ops.lean ====
section
/-! DEFINITION. The shared operations every block uses: reading and replacing records of the channel
and station tables, comparing monitor times, flag sets, and byte order. -/

namespace Sys2Proof.Machine

/-! ## Channels and stations by number -/

/-- The record of channel `n` (R1); a number above 127 has none and reads as the reset record. -/
def State.chan (s : State) (n : Nat) : Channel := s.channels[n]?.getD Channel.reset

/-- Replace the record of channel `n`. -/
def State.setChan (s : State) (n : Nat) (c : Channel) : State :=
  { s with channels := s.channels.setIfInBounds n c }

/-- The record of the station at an address from 1 to 12 (R63). No other address has a record; it
reads as the reset record. -/
def State.stn (s : State) (a : Nat) : Station :=
  if a = 0 then Station.reset else s.stations[a - 1]?.getD Station.reset

/-- Replace the record of the station at address `a`. -/
def State.setStn (s : State) (a : Nat) (r : Station) : State :=
  if a = 0 then s else { s with stations := s.stations.setIfInBounds (a - 1) r }

/-- The channel numbers in ascending order (R1). -/
def channelNumbers : List Nat := List.range Config.channelCount

/-- The station addresses 1 to 12 in ascending order (R63). -/
def addresses : List Nat := (List.range Config.stationCount).map (· + 1)

/-- Where a channel is bound, if it is. -/
def Channel.loc (c : Channel) : Option Location := c.binding.map Binding.loc

/-- The channel is bound (R2). -/
def Channel.bound (c : Channel) : Bool := c.binding.isSome

/-- The channel is a trip member: bound, with its trip member field yes (03, section 3.4). -/
def Channel.isMember (c : Channel) : Bool :=
  match c.binding with
  | some b => b.member
  | none => false

/-- The channel is bound to a point of the station at address `a`. -/
def Channel.onStation (c : Channel) (a : Nat) : Bool :=
  match c.binding with
  | some b => b.loc.station == a
  | none => false

/-- The point exists in the identity: the function is below the function count and the point below
the points per function (R24). With no count read, no point exists (R82). -/
def Station.hasPoint (r : Station) (fn point : Nat) : Bool :=
  match r.shape with
  | some sh => fn < sh.fns.toNat && point < sh.pts.toNat
  | none => false

/-- Some station is ADOPTED. -/
def State.anyAdopted (s : State) : Bool := addresses.any fun a => (s.stn a).state == .adopted

/-! ## Monitor time (R131) -/

/-- The present monitor time. -/
abbrev State.now (s : State) : Time := s.mon.time

/-- The milliseconds from `since` to now, modulo 2^32 (R131). -/
def State.elapsed (s : State) (since : Time) : Nat := (s.now - since).toNat

/-- Monitor time has reached or passed `t`: the difference modulo 2^32 is below 2^31 (R79). -/
def State.reached (s : State) (t : Time) : Bool := s.elapsed t < 2 ^ 31

/-- The monitor time `ms` milliseconds from now. -/
def State.later (s : State) (ms : Nat) : Time := s.now + BitVec.ofNat 32 ms

/-! ## Flag sets, one bit for each function -/

/-- Bit `i` set. -/
def setBit {w : Nat} (b : BitVec w) (i : Nat) : BitVec w := b ||| BitVec.twoPow w i

/-- Bit `i` cleared. -/
def clearBit {w : Nat} (b : BitVec w) (i : Nat) : BitVec w := b &&& ~~~(BitVec.twoPow w i)

/-- The four flags that a test of the function number gives. -/
def flagsOf (p : Nat → Bool) : BitVec 4 :=
  BitVec.ofNat 4 ((p 0).toNat + 2 * (p 1).toNat + 4 * (p 2).toNat + 8 * (p 3).toNat)

/-- The addresses of a station set in ascending order: bit a − 1 stands for address a (10.1). -/
def setAddresses (mask : BitVec 12) : List Nat := addresses.filter fun a => mask.getLsbD (a - 1)

/-- The lowest of the addresses that is above `last`. -/
def nextAbove (as : List Nat) (last : Nat) : Option Nat := as.find? (last < ·)

/-! ## Bytes (10: multi-byte fields are little-endian) -/

/-- Byte `i` of a record held as one number, its first byte the least significant. -/
def byteAt {w : Nat} (r : BitVec w) (i : Nat) : Byte := r.extractLsb' (8 * i) 8

/-- The 16-bit field in bytes `i` and `i + 1`. -/
def halfAt {w : Nat} (r : BitVec w) (i : Nat) : BitVec 16 := r.extractLsb' (8 * i) 16

/-- The 64-bit field that starts at byte `i`. -/
def quadAt {w : Nat} (r : BitVec w) (i : Nat) : BitVec 64 := r.extractLsb' (8 * i) 64

/-- The first `n` bytes of a number, least significant first. -/
def bytesLE (n : Nat) {w : Nat} (x : BitVec w) : List Byte :=
  (List.range n).map fun i => x.extractLsb' (8 * i) 8

/-- A byte whose fields are given as a sum of shifted parts. -/
def byteOf (n : Nat) : Byte := BitVec.ofNat 8 n

end Sys2Proof.Machine
end

