-- ==== Sys2Proof/Machine/Operands.lean ====
section
/-! DEFINITION. What the host hands in: request records and setup blocks, field by field, with the
codes of every enumeration and check 2 of R149 (10_record_and_frame_layouts.md; R187). -/

namespace Sys2Proof.Machine

/-! ## Codes (10.1) -/

def Condition.code : Condition → Nat
  | .unbound => 0 | .pending => 1 | .normal => 2 | .lowAlarm => 3 | .highAlarm => 4
  | .critical => 5 | .sensorFault => 6 | .stale => 7 | .unreachable => 8

def Reason.code : Reason → Nat
  | .silent => 1 | .absent => 2 | .rejected => 3 | .noPoint => 4 | .openInput => 5 | .range => 6
  | .convertErr => 7 | .stationFault => 8 | .missed => 9 | .linkFault => 10 | .unsupported => 11
  | .malformed => 12 | .changed => 13 | .protocol => 14 | .restarted => 15

/-- The code of an optional reason: 0 for none. -/
def reasonCode (r : Option Reason) : Nat := (r.map Reason.code).getD 0

def Quality.code : Quality → Nat
  | .valid => 0 | .openInput => 1 | .range => 2 | .convertErr => 3

/-- The quality that two bits of the QUALITY station register give (10.8, R190). -/
def Quality.ofCode (b : BitVec 2) : Quality :=
  match b.toNat with
  | 0 => .valid
  | 1 => .openInput
  | 2 => .range
  | _ => .convertErr

def StationState.code : StationState → Nat
  | .unknown => 0 | .absent => 1 | .adopted => 2 | .silent => 3 | .rejected => 4

def Latch.code : Latch → Nat
  | .clear => 0 | .tripped => 1 | .rearmWait => 2

def CauseKind.code : CauseKind → Nat
  | .critical => 1 | .memberFault => 2 | .link => 3 | .guardHot => 4 | .guardLost => 5 | .forced => 6

def LinkReason.code : LinkReason → Nat
  | .lineStuck => 1 | .collectiveSilence => 2

def MonitorState.code : MonitorState → Nat
  | .guarding => 0 | .stopped => 1 | .enumerating => 2 | .monitoring => 3 | .recovering => 4

def InterfaceState.code : InterfaceState → Nat
  | .off => 0 | .loading => 1 | .live => 2 | .draining => 3 | .halted => 4

def Status.code : Status → Nat
  | .ok => 0 | .badKind => 1 | .badField => 2 | .badState => 3 | .badChannel => 4 | .notBound => 5
  | .alreadyBound => 6 | .pointTaken => 7 | .badPoint => 8 | .badLimits => 9 | .busy => 10
  | .windowFault => 11 | .busError => 12 | .stationLost => 13 | .linkReset => 14 | .timeout => 15
  | .aborted => 16

def HaltCode.code : HaltCode → Nat
  | .noFault => 0 | .setupBusError => 1 | .ringSize => 2 | .ringAlign => 3 | .windowForm => 4
  | .ringWindow => 5 | .moderation => 6 | .ringBusError => 7

def RingStructure.code : RingStructure → Nat
  | .setup => 0 | .request => 1 | .completion => 2 | .event => 3

def RequestKind.code : RequestKind → Nat
  | .nop => 0x01 | .sync => 0x02 | .configure => 0x03 | .start => 0x04 | .stop => 0x05
  | .defineChannel => 0x06 | .retireChannel => 0x07 | .setLimits => 0x08 | .readChannel => 0x09
  | .freshRead => 0x0A | .rescan => 0x0B | .acceptStation => 0x0C | .dump => 0x0D
  | .rearmTrip => 0x0E | .forceTrip => 0x0F

/-- The kind that a kind field names; every other value is unknown (10.1). -/
def RequestKind.ofByte (b : Byte) : Option RequestKind :=
  match b.toNat with
  | 0x01 => some .nop
  | 0x02 => some .sync
  | 0x03 => some .configure
  | 0x04 => some .start
  | 0x05 => some .stop
  | 0x06 => some .defineChannel
  | 0x07 => some .retireChannel
  | 0x08 => some .setLimits
  | 0x09 => some .readChannel
  | 0x0A => some .freshRead
  | 0x0B => some .rescan
  | 0x0C => some .acceptStation
  | 0x0D => some .dump
  | 0x0E => some .rearmTrip
  | 0x0F => some .forceTrip
  | _ => none

/-! ## The request record (10.3) -/

/-- A request record: 32 bytes, byte 0 the least significant. -/
abbrev Request := BitVec 256

def Request.kindByte (r : Request) : Byte := byteAt r 0
def Request.kind (r : Request) : Option RequestKind := RequestKind.ofByte (Request.kindByte r)
def Request.tag (r : Request) : BitVec 16 := halfAt r 2
/-- The channel byte of the kinds that name a channel. -/
def Request.channel (r : Request) : Nat := (byteAt r 4).toNat

/-- The kind names a channel (check 4 of R149). -/
def RequestKind.namesChannel : RequestKind → Bool
  | .defineChannel | .retireChannel | .setLimits | .readChannel | .freshRead => true
  | _ => false

/-- The kind's work takes a job slot (R147). -/
def RequestKind.isJob : RequestKind → Bool
  | .sync | .freshRead | .rescan | .dump => true
  | _ => false

/-- The limit at bytes `i` and `i + 1`, present when its enable bit is set (10.3). -/
def Request.limit (r : Request) (enableBit i : Nat) : Option Count :=
  if (byteAt r 11).getLsbD enableBit then some (halfAt r i) else none

/-- The limits and hysteresis of DEFINE_CHANNEL and SET_LIMITS (10.3). -/
def Request.limits (r : Request) : Limits :=
  { criticalLow := Request.limit r 0 14, low := Request.limit r 1 16, high := Request.limit r 2 18,
    criticalHigh := Request.limit r 3 20, hysteresis := halfAt r 12 }

/-- The location of a DEFINE_CHANNEL. -/
def Request.location (r : Request) : Location :=
  { station := (byteAt r 5).toNat, fn := (byteAt r 6).toNat, point := (byteAt r 7).toNat }

/-- The binding that a DEFINE_CHANNEL asks for (R19). -/
def Request.binding (r : Request) : Binding :=
  { loc := Request.location r,
    format := if byteAt r 8 = 0 then .signed else .unsigned,
    cls := if byteAt r 9 = 0 then .routine else .urgent,
    member := byteAt r 10 != 0,
    limits := Request.limits r }

/-- The six parameters of a CONFIGURE (R137). -/
def Request.params (r : Request) : Params :=
  { sweepPeriod := (halfAt r 4).toNat, staleLimit := (halfAt r 6).toNat,
    reprobeInterval := (halfAt r 8).toNat, tripGrace := (halfAt r 10).toNat,
    stationMask := (halfAt r 12).setWidth 12, attentionUse := byteAt r 14 != 0 }

/-- The address set of a RESCAN (10.1). -/
def Request.addressSet (r : Request) : BitVec 12 := (halfAt r 4).setWidth 12

/-- The station address of an ACCEPT_STATION. -/
def Request.station (r : Request) : Nat := (byteAt r 4).toNat

/-- The option CLEAR_PEAKS of a READ_CHANNEL. -/
def Request.clearPeaks (r : Request) : Bool := (byteAt r 5).getLsbD 0

/-- The subject of a DUMP; check 2 of R149 has refused every other code. -/
def Request.dumpSubject (r : Request) : DumpSubject :=
  match (byteAt r 4).toNat with
  | 1 => .channels
  | 2 => .stations
  | _ => .summary

/-- The mode of a DUMP is NEXT_SWEEP. -/
def Request.dumpNextSweep (r : Request) : Bool := byteAt r 5 == 1

def Request.dumpFirst (r : Request) : Nat := (byteAt r 6).toNat
def Request.dumpCount (r : Request) : Nat := (byteAt r 7).toNat
def Request.dumpBuffer (r : Request) : BitVec 64 := quadAt r 8

/-! ## Check 2 of R149 (R187) -/

/-- Every byte from `lo` to 31, and byte 1, is zero. -/
def Request.zeroFrom (r : Request) (lo : Nat) : Bool :=
  byteAt r 1 == 0 && (List.range 32).all fun i => i < lo || byteAt r i == 0

/-- The bytes from `lo` to `hi` are zero. -/
def Request.zeroSpan (r : Request) (lo hi : Nat) : Bool :=
  (List.range 32).all fun i => i < lo || hi < i || byteAt r i == 0

/-- A byte holds 0 or 1, the codes of format, class, trip member, attention use and DUMP mode. -/
def isFlagByte (b : Byte) : Bool := b == 0 || b == 1

/-- The unused bits 4 to 7 of the limit enables are zero. -/
def Request.limitEnablesOk (r : Request) : Bool := (byteAt r 11).toNat < 16

/-- Check 2 of R149 by the table of 10.3: unused bytes and bits zero, enumerated fields defined. -/
def Request.fieldsOk (r : Request) : RequestKind → Bool
  | .nop | .sync | .start | .stop | .rearmTrip | .forceTrip => Request.zeroFrom r 4
  | .configure =>
    Request.zeroFrom r 15 && (halfAt r 12).toNat < 4096 && isFlagByte (byteAt r 14)
  | .defineChannel =>
    Request.zeroFrom r 22 && isFlagByte (byteAt r 8) && isFlagByte (byteAt r 9)
      && isFlagByte (byteAt r 10) && Request.limitEnablesOk r
  | .setLimits => Request.zeroFrom r 22 && Request.zeroSpan r 5 10 && Request.limitEnablesOk r
  | .retireChannel | .freshRead => Request.zeroFrom r 5
  | .readChannel => Request.zeroFrom r 6 && (byteAt r 5).toNat < 2
  | .rescan => Request.zeroFrom r 6 && (halfAt r 4).toNat < 4096
  | .acceptStation => Request.zeroFrom r 5
  | .dump =>
    Request.zeroFrom r 16 && isFlagByte (byteAt r 5)
      && (byteAt r 4 == 1 || ((byteAt r 4 == 2 || byteAt r 4 == 3) && Request.zeroSpan r 6 7))

/-- The monitor states that permit a kind (R150); for DUMP, step 3 looks at the mode as well. -/
def Request.permitted (r : Request) (k : RequestKind) (m : MonitorState) : Bool :=
  match k with
  | .nop | .sync | .rearmTrip | .forceTrip => true
  | .configure => m == .guarding || m == .stopped
  | .start => m == .stopped
  | .stop => m == .enumerating || m == .monitoring || m == .recovering
  | .defineChannel | .retireChannel | .setLimits | .readChannel => m != .guarding
  | .freshRead | .rescan => m == .monitoring
  | .acceptStation => m == .stopped || m == .monitoring
  | .dump => !Request.dumpNextSweep r || m == .monitoring

/-! ## CONFIGURE ranges (R137) -/

/-- The ranges of the six parameters. -/
def Params.inRange (p : Params) : Bool :=
  10 ≤ p.sweepPeriod && p.sweepPeriod ≤ 10000 && p.sweepPeriod % 10 == 0
    && 50 ≤ p.staleLimit && p.staleLimit ≤ 60000 && p.sweepPeriod < p.staleLimit
    && 100 ≤ p.reprobeInterval && p.reprobeInterval ≤ 10000
    && p.tripGrace ≤ 10000 && p.stationMask != 0

/-! ## The setup block (10.2) and the checks of LOADING (R169) -/

/-- A setup block: 128 bytes, byte 0 the least significant. -/
abbrev SetupBlock := BitVec 1024

/-- The ring description a setup block gives. -/
def SetupBlock.description (b : SetupBlock) : RingDescription :=
  { requestBase := quadAt b 0x00, completionBase := quadAt b 0x08, eventBase := quadAt b 0x10,
    requestExp := (byteAt b 0x18).toNat, completionExp := (byteAt b 0x19).toNat,
    eventExp := (byteAt b 0x1A).toNat,
    completionCount := (byteAt b 0x1C).toNat, completionDelay := (byteAt b 0x1D).toNat,
    eventCount := (byteAt b 0x1E).toNat, eventDelay := (byteAt b 0x1F).toNat }

/-- Window `w` of a setup block; bits 0 and 1 of its permission byte are read and write (10.1). -/
def SetupBlock.window (b : SetupBlock) (w : Nat) : Window :=
  { base := quadAt b (0x20 + 24 * w), length := quadAt b (0x28 + 24 * w),
    permission := { read := (byteAt b (0x30 + 24 * w)).getLsbD 0,
                    write := (byteAt b (0x30 + 24 * w)).getLsbD 1 } }

/-- The four windows of a setup block. -/
def SetupBlock.windows (b : SetupBlock) : Vector Window 4 :=
  #v[SetupBlock.window b 0, SetupBlock.window b 1, SetupBlock.window b 2, SetupBlock.window b 3]

/-- A window whose permission is none takes no part in any check (R169). -/
def Window.isNone (w : Window) : Bool := !w.permission.read && !w.permission.write

/-- A window is well formed (R169). -/
def Window.wellFormed (w : Window) : Bool :=
  w.base.toNat % 4096 == 0 && w.length.toNat % 4096 == 0 && 4096 ≤ w.length.toNat
    && w.length.toNat ≤ 2 ^ 32 && w.base.toNat + w.length.toNat ≤ 2 ^ 64

/-- The region of `length` bytes from `address` lies inside the window. -/
def Window.holds (w : Window) (address length : Nat) : Bool :=
  w.base.toNat ≤ address && address + length ≤ w.base.toNat + w.length.toNat

/-- The region lies inside one window whose permission includes read (R178). -/
def readable (ws : Vector Window 4) (address length : Nat) : Bool :=
  ws.toList.any fun w => w.permission.read && w.holds address length

/-- The region lies inside one window whose permission includes write (R178). -/
def writable (ws : Vector Window 4) (address length : Nat) : Bool :=
  ws.toList.any fun w => w.permission.write && w.holds address length

/-- Bytes of a request record (R169). -/
def requestSize : Nat := 32
/-- Bytes of a completion or an event record (R169). -/
def recordSize : Nat := 16

/-- A size exponent from 4 to 12 (check 2 of R169). -/
def exponentOk (e : Nat) : Bool := 4 ≤ e && e ≤ 12

/-- A failed check: halt code, structure and index (R169). -/
abbrev SetupFailure := FaultRegister

/-- The checks of R169 after the setup read ended without a bus error, in order: the first that
fails, or none. -/
def SetupBlock.check (b : SetupBlock) : Option SetupFailure :=
  let d := SetupBlock.description b
  let ws := SetupBlock.windows b
  if !exponentOk d.requestExp then some ⟨.ringSize, .request, 0⟩
  else if !exponentOk d.completionExp then some ⟨.ringSize, .completion, 0⟩
  else if !exponentOk d.eventExp then some ⟨.ringSize, .event, 0⟩
  else if d.requestBase.toNat % 64 != 0 then some ⟨.ringAlign, .request, 0⟩
  else if d.completionBase.toNat % 64 != 0 then some ⟨.ringAlign, .completion, 0⟩
  else if d.eventBase.toNat % 64 != 0 then some ⟨.ringAlign, .event, 0⟩
  else
    match (List.range 4).find? fun i =>
        !(SetupBlock.window b i).isNone && !(SetupBlock.window b i).wellFormed with
    | some i => some ⟨.windowForm, .setup, i⟩
    | none =>
      if !readable ws d.requestBase.toNat (requestSize * 2 ^ d.requestExp) then
        some ⟨.ringWindow, .request, 0⟩
      else if !writable ws d.completionBase.toNat (recordSize * 2 ^ d.completionExp) then
        some ⟨.ringWindow, .completion, 0⟩
      else if !writable ws d.eventBase.toNat (recordSize * 2 ^ d.eventExp) then
        some ⟨.ringWindow, .event, 0⟩
      else if d.completionCount == 0 then some ⟨.moderation, .completion, 0⟩
      else if d.eventCount == 0 then some ⟨.moderation, .event, 0⟩
      else none

end Sys2Proof.Machine
end

