-- ==== Sys2Proof/Machine/Frames.lean ====
section
/-! DEFINITION. Drop Bus frames: their fields, the check, and how a response is judged
(R113 to R115; 10_record_and_frame_layouts.md, 10.8; R190). -/

namespace Sys2Proof.Machine

/-- The bits of a field in the order sent, most significant first (10.8). -/
def bitsMSB {w : Nat} (x : BitVec w) : List Bool := (List.range w).map x.getMsbD

/-- The number that bits give, the first one the most significant. -/
def natOfBits (bs : List Bool) : Nat := bs.foldl (fun acc b => 2 * acc + b.toNat) 0

/-- One step of the check register (R114). -/
def crcStep (r : BitVec 8) (b : Bool) : BitVec 8 :=
  if r.getMsbD 0 != b then (r <<< 1) ^^^ 0x07#8 else r <<< 1

/-- The check of the bits of a frame's fields: polynomial x⁸ + x² + x + 1, initial value 0 (R114). -/
def crc8 (bs : List Bool) : BitVec 8 := bs.foldl crcStep 0#8

/-- Fields with their check appended. -/
def withCheck (fields : List Bool) : List Bool := fields ++ bitsMSB (crc8 fields)

/-! ## Station registers (R120, 10.8) -/

def regId0 : Nat := 0
def regId1 : Nat := 1
def regStatus : Nat := 2
def regControl : Nat := 3
/-- READING of function `fn`, point `p`. -/
def regReading (fn p : Nat) : Nat := 16 + 8 * fn + p
/-- QUALITY of function `fn`. -/
def regQuality (fn : Nat) : Nat := 48 + fn

/-- The operation codes of a request frame (10.8). -/
def opRead : BitVec 2 := 0
def opWrite : BitVec 2 := 1
def opBroadcast : BitVec 2 := 2

/-- The request frame after its start mark: address, operation, register, the data of a WRITE, check
(R113). -/
def requestFrame (address register : Nat) (data : Option (BitVec 16)) : List Bool :=
  withCheck (bitsMSB (BitVec.ofNat 4 address)
    ++ bitsMSB (match data with | some _ => opWrite | none => opRead)
    ++ bitsMSB (BitVec.ofNat 6 register)
    ++ (match data with | some d => bitsMSB d | none => []))

/-- The broadcast reset frame: address 0, operation BCAST_RESET, register 0 (R128). -/
def broadcastFrame : List Bool :=
  withCheck (bitsMSB 0#4 ++ bitsMSB opBroadcast ++ bitsMSB 0#6)

/-- The CONTROL word of a plan write: the enables with ACK_RESET set (R70, R84, 10.8). -/
def planWord (p : Plan) : BitVec 16 :=
  p.fns.setWidth 16 ||| (p.attn.setWidth 16 <<< 4) ||| BitVec.twoPow 16 12

/-- The CONTROL word of a convert-now: the enables with the convert-now bit of `fn` and ACK_RESET
clear (R84, R105, R133). -/
def convertWord (p : Plan) (fn : Nat) : BitVec 16 :=
  p.fns.setWidth 16 ||| (p.attn.setWidth 16 <<< 4) ||| BitVec.twoPow 16 (8 + fn)

/-! ## Responses (R115) -/

/-- The judgement of an attempt that drew a response. The data of a good ACK to a WRITE is 0. -/
inductive Judgement where
  | goodAck (data : BitVec 16)
  | goodNak
  | corrupt
  deriving DecidableEq, Repr

def ackBits : List Bool := [true, false, true, false]
def nakBits : List Bool := [false, true, false, true]

/-- `fields` are followed by their check in `rest`. -/
def checkGood (fields rest : List Bool) : Bool := rest.take 8 == bitsMSB (crc8 fields)

/-- Judge the bits clocked in after the start mark of a response, to a READ or to a WRITE (R115). -/
def judgeResponse (isRead : Bool) (bits : List Bool) : Judgement :=
  if bits.take 4 = nakBits then
    if checkGood nakBits (bits.drop 4) then .goodNak else .corrupt
  else if bits.take 4 = ackBits then
    if isRead then
      let data := (bits.drop 4).take 16
      if data.length = 16 && checkGood (ackBits ++ data) (bits.drop 20) then
        .goodAck (BitVec.ofNat 16 (natOfBits data))
      else .corrupt
    else if checkGood ackBits (bits.drop 4) then .goodAck 0 else .corrupt
  else .corrupt

/-! ## Decoding the data of a DONE READ (R190, 10.8) -/

/-- ID0: bits 8–15 class, bits 0–7 revision. -/
def decodeId0 (d : BitVec 16) : ClassRev := { cls := d.extractLsb' 8 8, rev := d.extractLsb' 0 8 }

/-- ID1: bits 0–3 function count, bits 4–7 points per function; bits 8 to 15 are ignored. -/
def decodeId1 (d : BitVec 16) : Shape := { fns := d.extractLsb' 0 4, pts := d.extractLsb' 4 4 }

/-- The attention flags of STATUS. -/
def statusFlags (d : BitVec 16) : BitVec 4 := d.extractLsb' 0 4
/-- RESET_DONE of STATUS. -/
def statusResetDone (d : BitVec 16) : Bool := d.getLsbD 4
/-- FAULT of STATUS. -/
def statusFault (d : BitVec 16) : Bool := d.getLsbD 5

/-- The quality of point `p` in a QUALITY register. -/
def qualityOf (d : BitVec 16) (p : Nat) : Quality := Quality.ofCode (d.extractLsb' (2 * p) 2)

end Sys2Proof.Machine
end

