-- ==== Sys2Proof/Machine/Flags.lean ====
section
/-! DEFINITION. The interrupt causes and the interrupt message (R183), and event and completion
moderation (R43 to R46). -/

namespace Sys2Proof.Machine

/-- The causes that are both raised and enabled. -/
def RegisterPort.active (p : RegisterPort) : Causes :=
  { completion := p.intCause.completion && p.intEnable.completion,
    event := p.intCause.event && p.intEnable.event,
    urgent := p.intCause.urgent && p.intEnable.urgent,
    fault := p.intCause.fault && p.intEnable.fault,
    index := p.intCause.index && p.intEnable.index }

/-- Some cause is in the set. -/
def Causes.any (c : Causes) : Bool := c.completion || c.event || c.urgent || c.fault || c.index

/-- The port can send an interrupt message (R183). -/
def PciePort.canMessage (p : PciePort) : Bool := p.messages && p.linkUp

/-- The port can send a write to host memory (R180). -/
def PciePort.canWrite (p : PciePort) : Bool := p.busMastering && p.linkUp

/-- Put `p` in place of the register port, and send one interrupt message when the set of raised and
enabled causes goes from empty to non-empty. A message that the port cannot send is lost (R183). -/
def State.setPort (s : State) (p : RegisterPort) : State :=
  let send := p.active.any && !s.port.active.any && s.pcie.canMessage
  { s with
    port := p
    pcie := { s.pcie with messagesSent := if send then s.pcie.messagesSent + 1 else s.pcie.messagesSent } }

/-- Raise causes: each bit of `c` is set and the others stay (R183). -/
def State.raise (s : State) (c : Causes) : State :=
  s.setPort { s.port with
    intCause :=
      { completion := s.port.intCause.completion || c.completion
        event := s.port.intCause.event || c.event
        urgent := s.port.intCause.urgent || c.urgent
        fault := s.port.intCause.fault || c.fault
        index := s.port.intCause.index || c.index } }

def Causes.completionOnly : Causes := { Causes.none with completion := true }
def Causes.eventOnly : Causes := { Causes.none with event := true }
def Causes.urgentOnly : Causes := { Causes.none with urgent := true }
def Causes.faultOnly : Causes := { Causes.none with fault := true }
def Causes.indexOnly : Causes := { Causes.none with index := true }

/-- The causes a write of CONTROL or INT_CAUSE holds, the lowest at bit `at0` (10.7). -/
def Causes.ofBits (w : BitVec 32) (at0 : Nat) : Causes :=
  { completion := w.getLsbD at0, event := w.getLsbD (at0 + 1), urgent := w.getLsbD (at0 + 2),
    fault := w.getLsbD (at0 + 3), index := w.getLsbD (at0 + 4) }

/-- Clear each cause whose bit is written as 1 (R183). -/
def State.clearCauses (s : State) (c : Causes) : State :=
  { s with port := { s.port with
      intCause :=
        { completion := s.port.intCause.completion && !c.completion
          event := s.port.intCause.event && !c.event
          urgent := s.port.intCause.urgent && !c.urgent
          fault := s.port.intCause.fault && !c.fault
          index := s.port.intCause.index && !c.index } } }

/-! ## Moderation (R43, R44) -/

/-- One more record written: the counter goes up, and the timer starts if it was 0. -/
def Moderation.step (m : Moderation) (now : Time) : Moderation :=
  { count := m.count + 1, since := if m.count = 0 then some now else m.since }

/-- The counter has reached the moderation count, or the delay is 0. -/
def Moderation.due (m : Moderation) (count delay : Nat) : Bool := count ≤ m.count || delay == 0

/-- The counter is above 0 and its timer has run for at least the delay. -/
def Moderation.delayOver (m : Moderation) (now : Time) (delay : Nat) : Bool :=
  0 < m.count &&
    match m.since with
    | some t => delay ≤ (now - t).toNat
    | none => false

/-- Put the event moderation in place. -/
def State.setEventMod (s : State) (m : Moderation) : State :=
  { s with ring := { s.ring with eventMod := m } }

/-- Put the completion moderation in place. -/
def State.setCompletionMod (s : State) (m : Moderation) : State :=
  { s with ring := { s.ring with completionMod := m } }

/-- Raise EVENT; the counter returns to 0 and the timer stops (R43). -/
def State.raiseEvent (s : State) : State := (s.setEventMod Moderation.idle).raise Causes.eventOnly

/-- Raise COMPLETION; the counter returns to 0 and the timer stops (R44). -/
def State.raiseCompletion (s : State) : State :=
  (s.setCompletionMod Moderation.idle).raise Causes.completionOnly

/-- The moderation count and delay of the event ring, as loaded. -/
def RingEngine.eventModeration (r : RingEngine) : Nat × Nat :=
  match r.desc with
  | some d => (d.eventCount, d.eventDelay)
  | none => (0, 0)

/-- The moderation count and delay of the completion ring, as loaded. -/
def RingEngine.completionModeration (r : RingEngine) : Nat × Nat :=
  match r.desc with
  | some d => (d.completionCount, d.completionDelay)
  | none => (0, 0)

/-- The event moderation step at a completed event write (R43). -/
def State.eventModStep (s : State) : State :=
  let m := s.ring.eventMod.step s.now
  let lim := s.ring.eventModeration
  if m.due lim.1 lim.2 then s.raiseEvent else s.setEventMod m

/-- The completion moderation step at a completed completion write (R44). -/
def State.completionModStep (s : State) : State :=
  let m := s.ring.completionMod.step s.now
  let lim := s.ring.completionModeration
  if m.due lim.1 lim.2 then s.raiseCompletion else s.setCompletionMod m

end Sys2Proof.Machine
end

