-- ==== Sys2Proof/Machine/Records.lean ====
section
/-! DEFINITION. The bytes of every record the part writes into host memory
(10_record_and_frame_layouts.md, 10.4 to 10.6; R188). -/

namespace Sys2Proof.Machine

/-- A Bool as the weight of its bit. -/
def bitIf (b : Bool) (weight : Nat) : Nat := if b then weight else 0

/-! ## The completion record (10.4) -/

def Completion.bytes (c : Completion) (lap : Bool) : List Byte :=
  [byteOf lap.toNat, c.kind] ++ bytesLE 2 c.tag ++ [byteOf c.status.code, c.generation]
    ++ bytesLE 2 c.head ++ bytesLE 2 c.value
    ++ [byteOf (c.stateOrCondition % 16 + 16 * reasonCode c.reason),
        byteOf (c.quality.code + bitIf c.absent 4 + bitIf c.discarded 8 + bitIf c.notTripped 16)]
    ++ bytesLE 4 c.time

/-! ## The event record (10.5) -/

/-- The source kind code (10.5). -/
def Source.kindCode : Source → Nat
  | .channel _ => 0 | .station _ => 1 | .trip => 2 | .link => 3

/-- The source index (02, section 2.1). -/
def Source.index : Source → Nat
  | .channel n => n | .station a => a | .trip => 0 | .link => 0

def Entry.bytes (e : Entry) (lap : Bool) : List Byte :=
  [byteOf (lap.toNat + bitIf e.urgent 2 + 4 * e.source.kindCode), byteOf e.source.index,
   e.generation, byteOf e.count, e.before, e.after, e.detail, 0]
    ++ bytesLE 4 e.first ++ bytesLE 2 e.value ++ bytesLE 2 e.offset

/-! ## Dump records (10.6, R163) -/

/-- The 16-byte channel record of channel number `n`. -/
def Channel.dumpBytes (n : Nat) (c : Channel) : List Byte :=
  let fmt := match c.binding with
    | some b => bitIf (b.format == .unsigned) 2 + bitIf (b.cls == .urgent) 4 + bitIf b.member 8
    | none => 0
  let (station, fn, point) := match c.binding with
    | some b => (b.loc.station, b.loc.fn, b.loc.point)
    | none => (0, 0, 0)
  let (value, quality, time) := match c.last with
    | some l => (l.value, l.quality.code, l.time)
    | none => (0, 0, 0)
  let (min, max) := match c.peaks with
    | some p => (p.min, p.max)
    | none => (0, 0)
  [byteOf n, c.generation, byteOf (c.condition.code + 16 * reasonCode c.reason),
   byteOf (bitIf c.bound 1 + fmt + bitIf c.last.isSome 16 + bitIf c.peaks.isSome 32),
   byteOf (station + 16 * fn + 64 * quality), byteOf point]
    ++ bytesLE 2 value ++ bytesLE 4 time ++ bytesLE 2 min ++ bytesLE 2 max

/-- Class, revision, and the byte with function count and points, 0 where absent. -/
def identityBytes (cr : Option ClassRev) (sh : Option Shape) : List Byte :=
  [(cr.map ClassRev.cls).getD 0, (cr.map ClassRev.rev).getD 0,
   match sh with
   | some x => byteOf (x.fns.toNat + 16 * x.pts.toNat)
   | none => 0]

/-- The 16-byte station record of the station at address `a`. -/
def Station.dumpBytes (a : Nat) (r : Station) : List Byte :=
  [byteOf (a + bitIf r.classRev.isSome 16 + bitIf r.shape.isSome 32
      + bitIf r.fingerprint.isSome 64 + bitIf r.lastHeard.isSome 128),
   byteOf (r.state.code + 16 * reasonCode r.reason)]
    ++ identityBytes r.classRev r.shape
    ++ identityBytes (r.fingerprint.map Fingerprint.classRev) (r.fingerprint.map Fingerprint.shape)
    ++ [byteOf (r.plan.fns.toNat + 16 * r.plan.attn.toNat),
        byteOf (r.missCount % 4 + bitIf r.planApplied 4 + bitIf r.holder.isSome 8
          + 16 * r.owed.toNat)]
    ++ bytesLE 2 r.failed ++ bytesLE 4 (r.lastHeard.getD 0)

/-- The link state code (10.1). -/
def linkCode (faulted stuck : Bool) : Nat := bitIf faulted 1 + bitIf stuck 2

/-- The 64-byte summary record (R163). -/
def State.summaryBytes (s : State) : List Byte :=
  [byteOf (s.mon.state.code + 8 * s.ring.iface.code),
   byteOf (s.trip.latch.code + bitIf s.mon.rosterComplete 4 + bitIf s.mon.guardActive 8
     + 16 * linkCode s.mon.lineFaulted s.mon.attnPartStuck + bitIf s.trip.rearmTime.isSome 64)]
    ++ (match s.trip.cause with
        | some c => [byteOf c.kind.code, c.source, byteOf c.count]
        | none => [0, 0, 0])
    ++ [byteOf s.evt.backlog.length, 0, 0]
    ++ bytesLE 4 ((s.trip.cause.map CauseRecord.time).getD 0)
    ++ bytesLE 4 (s.trip.rearmTime.getD 0) ++ bytesLE 4 s.mon.time
    ++ bytesLE 4 s.bus.transactions ++ bytesLE 4 s.bus.retries ++ bytesLE 4 s.bus.missed
    ++ bytesLE 4 s.sched.sweepsCompleted ++ bytesLE 4 s.sched.sweepOverruns
    ++ bytesLE 4 s.sched.attentionPasses
    ++ bytesLE 4 s.evt.posted ++ bytesLE 4 s.evt.coalesced ++ bytesLE 4 s.evt.discarded
    ++ bytesLE 4 s.mon.rounds ++ [0, 0, 0, 0]

end Sys2Proof.Machine
end

