-- ==== Sys2Proof/Machine/Events.lean ====
section
/-! DEFINITION. The event unit: urgency, the arrival of a notice, posting, the drain of the backlog
and the discard at retirement (02_event_delivery_and_the_backlog.md). -/

namespace Sys2Proof.Machine

/-! ## Ring sizes and distances (R175) -/

def RingEngine.requestRingSize (r : RingEngine) : Nat :=
  match r.desc with | some d => 2 ^ d.requestExp | none => 0
def RingEngine.completionRingSize (r : RingEngine) : Nat :=
  match r.desc with | some d => 2 ^ d.completionExp | none => 0
def RingEngine.eventRingSize (r : RingEngine) : Nat :=
  match r.desc with | some d => 2 ^ d.eventExp | none => 0

/-- The records from `from_` on to `to_` around a ring of `size` slots (R175). -/
def ringDistance (size to_ from_ : Nat) : Nat := (to_ + size - from_) % size

/-- Event records posted and not yet consumed (R33). -/
def RingEngine.eventsUnread (r : RingEngine) : Nat :=
  ringDistance r.eventRingSize r.eventTail r.eventHead

/-- Completion records posted and not yet consumed (R148). -/
def RingEngine.completionsUnread (r : RingEngine) : Nat :=
  ringDistance r.completionRingSize r.completionTail r.completionHead

/-- The rings may be used: LIVE or DRAINING. -/
def InterfaceState.inUse (i : InterfaceState) : Bool := i == .live || i == .draining

/-- The event unit may post: the interface is LIVE or DRAINING and the event ring has a free slot
(R32, R33). -/
def State.canPost (s : State) : Bool :=
  s.ring.iface.inUse && s.ring.eventsUnread < s.ring.eventRingSize - 1

/-! ## Notices and entries -/

/-- The urgency of a notice (R29). -/
def Notice.urgent (n : Notice) : Bool :=
  match n.source with
  | .channel _ => n.after == byteOf Condition.critical.code || n.classUrgent
  | .station _ =>
    (n.after == byteOf StationState.silent.code || n.after == byteOf StationState.rejected.code)
      && n.before != n.after
  | .trip => true
  | .link => !n.before.getLsbD 0 && n.after.getLsbD 0

/-- The record of a single notice (R30). -/
def Entry.ofNotice (n : Notice) : Entry :=
  { source := n.source, generation := n.generation, before := n.before, after := n.after,
    detail := n.detail, urgent := n.urgent, count := 1, first := n.time, value := n.value,
    offset := 0 }

/-- The last-time offset: the difference modulo 2^32, saturated at 65535 (R30). -/
def lastOffset (first time : Time) : BitVec 16 := BitVec.ofNat 16 (min (time - first).toNat 65535)

/-- Merge a notice into the entry of its source (R32, case 2). -/
def Entry.merge (e : Entry) (n : Notice) : Entry :=
  { e with
    after := n.after, detail := n.detail, value := n.value
    count := min (e.count + 1) Config.countCeiling
    urgent := e.urgent || n.urgent
    offset := lastOffset e.first n.time }

/-! ## Posting and draining -/

/-- Post a record: it takes the lap value and the slot at the event tail, the tail advances, the lap
value inverts on a wrap, and the write is placed (R33). -/
def State.post (s : State) (e : Entry) : State :=
  let r := s.ring
  let next := (r.eventTail + 1) % r.eventRingSize
  { s with ring := { r with
      eventWrites := r.eventWrites ++ [{ slot := r.eventTail, lap := r.eventLap, record := e }]
      eventTail := next
      eventLap := if next = 0 then !r.eventLap else r.eventLap } }

/-- Put a backlog in place. -/
def State.setBacklog (s : State) (b : List Entry) : State :=
  { s with evt := { s.evt with backlog := b } }

/-- Post the entries from the head of a backlog while posting is allowed; the rest is held (R34). -/
def State.drainList (s : State) : List Entry → State
  | [] => s.setBacklog []
  | e :: es => if s.canPost then (s.post e).drainList es else s.setBacklog (e :: es)

/-- The drain of the backlog (R34). -/
def State.drain (s : State) : State := s.drainList s.evt.backlog

/-- The backlog with the notice merged into its source's entry, which keeps its place. -/
def mergeInto (b : List Entry) (n : Notice) : List Entry :=
  b.map fun e => if e.source = n.source then e.merge n else e

/-- The backlog holds an entry of the source. -/
def holdsSource (b : List Entry) (src : Source) : Bool := b.any fun e => e.source == src

/-- A change notice arrives (R32): it is posted directly, merged or appended, and after a merge or an
append the drain goes on. -/
def State.notify (s : State) (n : Notice) : State :=
  if s.evt.backlog = [] ∧ s.canPost then s.post (Entry.ofNotice n)
  else if holdsSource s.evt.backlog n.source then
    { s with evt := { s.evt with
        backlog := mergeInto s.evt.backlog n
        coalesced := s.evt.coalesced + 1 } }.drain
  else (s.setBacklog (s.evt.backlog ++ [Entry.ofNotice n])).drain

/-- Discard a channel's entry at its retirement: the state after, and whether there was one (R37). -/
def State.discardEntry (s : State) (n : Nat) : State × Bool :=
  if holdsSource s.evt.backlog (.channel n) then
    ({ s with evt := { s.evt with
        backlog := s.evt.backlog.filter fun e => e.source != .channel n
        discarded := s.evt.discarded + 1 } }, true)
  else (s, false)

/-! ## Notices of the trip and the link (R51, R136) -/

/-- A link notice, from one link state to another. -/
def State.linkNotice (s : State) (before after : Nat) (detail : Nat) : Notice :=
  { source := .link, generation := 0, before := byteOf before, after := byteOf after,
    detail := byteOf detail, value := 0, time := s.now, classUrgent := false }

/-- A trip notice (R51). -/
def State.tripNotice (s : State) (before after : Latch) (kind : Nat) (source : Byte) : Notice :=
  { source := .trip, generation := 0, before := byteOf before.code, after := byteOf after.code,
    detail := byteOf kind, value := source.setWidth 16, time := s.now, classUrgent := false }

end Sys2Proof.Machine
end

