-- ==== Sys2Proof/Machine/Trip.lean ====
section
/-! DEFINITION. The trip unit: raising a cause, member reports, the release test, guard causes
(03_the_protective_trip.md). -/

namespace Sys2Proof.Machine

/-- TRIP_OUT is asserted exactly while the latch is TRIPPED or REARM_WAIT (R48). -/
def State.tripOut (s : State) : Bool := s.trip.latch != .clear

/-- Put the trip unit in place. -/
def State.setTrip (s : State) (t : TripUnit) : State := { s with trip := t }

/-- One more cause in the record, saturating at 255 (R49). -/
def CauseRecord.again (c : CauseRecord) : CauseRecord :=
  { c with count := min (c.count + 1) Config.countCeiling }

/-- The kind code and source index of the first cause (R51). -/
def TripUnit.firstCause (t : TripUnit) : Nat × Byte :=
  match t.cause with
  | some c => (c.kind.code, c.source)
  | none => (0, 0)

/-- Raise a cause (R50). -/
def State.raiseCause (s : State) (kind : CauseKind) (source : Byte) : State :=
  match s.trip.latch with
  | .clear =>
    (s.setTrip { s.trip with
        latch := .tripped
        cause := some { kind := kind, source := source, time := s.now, count := 1 } }).notify
      (s.tripNotice .clear .tripped kind.code source)
  | .tripped => s.setTrip { s.trip with cause := s.trip.cause.map CauseRecord.again }
  | .rearmWait =>
    (s.setTrip { s.trip with
        latch := .tripped
        cause := s.trip.cause.map CauseRecord.again
        marks := 0
        guardQualified := false }).notify
      (s.tripNotice .rearmWait .tripped kind.code source)

/-- A condition within the limits as the release test asks: NORMAL, LOW_ALARM or HIGH_ALARM (R59). -/
def Condition.released (c : Condition) : Bool :=
  c == .normal || c == .lowAlarm || c == .highAlarm

/-- Some trip member is bound (R53). -/
def State.memberBound (s : State) : Bool := channelNumbers.any fun n => (s.chan n).isMember

/-- A member is qualified: its mark is set and its condition is within the limits (R59). -/
def State.qualified (s : State) (n : Nat) : Bool :=
  s.trip.marks.getLsbD n && (s.chan n).condition.released

/-- The three conditions of the release test (R60). -/
def State.releasePasses (s : State) : Bool :=
  !s.mon.lineFaulted && (!s.mon.guardActive || s.trip.guardQualified)
    && channelNumbers.all fun n => !(s.chan n).isMember || s.qualified n

/-- The release test: made only in REARM_WAIT; when it passes, the latch becomes CLEAR and RELEASED
is handed (R60). -/
def State.releaseTest (s : State) : State :=
  if s.trip.latch = .rearmWait ∧ s.releasePasses then
    (s.setTrip { s.trip with latch := .clear }).notify
      (s.tripNotice .rearmWait .clear s.trip.firstCause.1 s.trip.firstCause.2)
  else s

/-- What a member report is about (R15). -/
inductive ReportKind where
  | evaluation | change | retirement
  deriving DecidableEq, Repr

/-- The cause a member report raises, if any (R52). -/
def memberCause (linkFaulted : Bool) (before after : Condition) : Option CauseKind :=
  if before = after then none
  else match after with
    | .critical => some .critical
    | .stale | .sensorFault => some .memberFault
    | .unreachable => if linkFaulted then none else some .memberFault
    | _ => none

/-- The qualification marks after a report on channel `n` (R59). -/
def marksAfter (marks : BitVec 128) (n : Nat) (after : Condition) (kind : ReportKind) : BitVec 128 :=
  match kind with
  | .retirement => clearBit marks n
  | .evaluation => if after.released then setBit marks n else clearBit marks n
  | .change => if after.released then marks else clearBit marks n

/-- A member report: cause test, mark, and in REARM_WAIT the release test of an evaluation or a
retirement (R52). -/
def State.memberReport (s : State) (n : Nat) (before after : Condition) (kind : ReportKind) : State :=
  let s1 := match kind with
    | .retirement => s
    | _ => match memberCause s.mon.lineFaulted before after with
      | some k => s.raiseCause k (byteOf n)
      | none => s
  let s2 := s1.setTrip { s1.trip with marks := marksAfter s1.trip.marks n after kind }
  match kind with
  | .change => s2
  | _ => s2.releaseTest

/-- The guard qualification cleared (R55, R56). -/
def State.clearGuardMark (s : State) : State := s.setTrip { s.trip with guardQualified := false }

/-- A guard reading reaches the trip unit (R55). -/
def State.guardReading (s : State) (value : Count) (valid : Bool) : State :=
  if !valid then s
  else if Config.guardLimit ≤ value.toInt then (s.raiseCause .guardHot 1).clearGuardMark
  else if s.trip.latch = .rearmWait then
    (s.setTrip { s.trip with guardQualified := true }).releaseTest
  else s

/-- Station 1 has left ADOPTED while guard is active (R56). -/
def State.guardLost (s : State) : State := (s.raiseCause .guardLost 1).clearGuardMark

/-- The trip unit at the end of guard (R56). -/
def State.tripGuardEnded (s : State) : State := s.clearGuardMark.releaseTest

/-- The trip unit is told that the link has become faulted (R53). -/
def State.tripLinkFaulted (s : State) : State :=
  s.setTrip { s.trip with faultStart := some s.now, linkCauseRaised := false }

/-- The trip unit at LINK_RESTORED (R54, R136). -/
def State.tripLinkRestored (s : State) : State :=
  let s1 := channelNumbers.foldl (fun t n =>
    if (t.chan n).isMember && (t.chan n).condition == .unreachable then
      t.raiseCause .memberFault (byteOf n)
    else t) s
  let s2 := s1.releaseTest
  s2.setTrip { s2.trip with faultStart := none }

/-- The grace examination of the LINK cause (R53). -/
def State.graceOver (s : State) : Bool :=
  s.mon.lineFaulted && !s.trip.linkCauseRaised && (s.memberBound || s.mon.guardActive) &&
    match s.trip.faultStart with
    | some t => s.mon.params.tripGrace < s.elapsed t
    | none => false

/-- Raise LINK once for the present fault (R53). -/
def State.raiseLinkCause (s : State) : State :=
  let s1 := s.raiseCause .link 0
  s1.setTrip { s1.trip with linkCauseRaised := true }

end Sys2Proof.Machine
end

