-- ==== Sys2Proof/Machine/Conditions.lean ====
section
/-! DEFINITION. The condition unit: formats, limits, the evaluation of a reading, notices and
reports, freshness, station changes, START (01_channels_and_conditions.md). -/

namespace Sys2Proof.Machine

/-! ## Formats and thresholds (R4, R5) -/

/-- The value of a count in a format (R4). -/
def Format.value (f : Format) (c : Count) : Int :=
  match f with
  | .signed => c.toInt
  | .unsigned => c.toNat

/-- The least value of a format. -/
def Format.least : Format → Int
  | .signed => -32768
  | .unsigned => 0

/-- The greatest value of a format. -/
def Format.greatest : Format → Int
  | .signed => 32767
  | .unsigned => 65535

/-- A limit less the hysteresis, saturated at the end of the range (R4). -/
def Format.minus (f : Format) (limit : Count) (h : BitVec 16) : Int :=
  max f.least (f.value limit - h.toNat)

/-- A limit plus the hysteresis, saturated at the end of the range (R4). -/
def Format.plus (f : Format) (limit : Count) (h : BitVec 16) : Int :=
  min f.greatest (f.value limit + h.toNat)

/-- A limit that is absent passes; one that is enabled is tested. -/
def absentOr (limit : Option Count) (p : Count → Bool) : Bool :=
  match limit with
  | none => true
  | some c => p c

/-- A limit that is enabled and passes the test. -/
def enabledAnd (limit : Option Count) (p : Count → Bool) : Bool :=
  match limit with
  | none => false
  | some c => p c

/-- Each number is less than the next. -/
def strictlyRising : List Int → Bool
  | a :: b :: rest => a < b && strictlyRising (b :: rest)
  | _ => true

/-- A set of limits is valid in a format (R5). -/
def Limits.valid (l : Limits) (f : Format) : Bool :=
  strictlyRising (([l.criticalLow, l.low, l.high, l.criticalHigh].filterMap id).map f.value)
    && l.hysteresis.toNat ≤ Config.maxHysteresis

/-! ## Judging a value (R10 to R12) -/

/-- The entry tests, without hysteresis (R12). -/
def entryTests (f : Format) (l : Limits) (v : Int) : Condition :=
  if enabledAnd l.high fun c => f.value c < v then .highAlarm
  else if enabledAnd l.low fun c => v < f.value c then .lowAlarm
  else .normal

/-- The value is at or beyond an enabled critical limit (R10). -/
def entersCritical (f : Format) (l : Limits) (v : Int) : Bool :=
  (enabledAnd l.criticalHigh fun c => f.value c ≤ v) || (enabledAnd l.criticalLow fun c => v ≤ f.value c)

/-- The value has moved back inside both critical limits by more than the hysteresis (R10). -/
def leavesCritical (f : Format) (l : Limits) (v : Int) : Bool :=
  (absentOr l.criticalHigh fun c => v < f.minus c l.hysteresis)
    && (absentOr l.criticalLow fun c => f.plus c l.hysteresis < v)

/-- The condition a channel leaving CRITICAL lands in (R10). -/
def afterCritical (f : Format) (l : Limits) (v : Int) : Condition :=
  if enabledAnd l.high fun c => f.minus c l.hysteresis < v then .highAlarm
  else if enabledAnd l.low fun c => v < f.plus c l.hysteresis then .lowAlarm
  else .normal

/-- The condition that a VALID value gives a channel in the present condition (R10 to R12). -/
def judge (f : Format) (l : Limits) (present : Condition) (v : Int) : Condition :=
  match present with
  | .critical => if leavesCritical f l v then afterCritical f l v else .critical
  | .highAlarm =>
    if entersCritical f l v then .critical
    else if absentOr l.high fun c => v ≤ f.minus c l.hysteresis then
      if enabledAnd l.low fun c => v < f.value c then .lowAlarm else .normal
    else .highAlarm
  | .lowAlarm =>
    if entersCritical f l v then .critical
    else if absentOr l.low fun c => f.plus c l.hysteresis ≤ v then
      if enabledAnd l.high fun c => f.value c < v then .highAlarm else .normal
    else .lowAlarm
  | _ => if entersCritical f l v then .critical else entryTests f l v

/-! ## Settling a condition (R6, R13 to R15) -/

/-- A change of condition that produces a notice (R14). -/
def noticed (before after : Condition) : Bool :=
  before != after && after != .pending && !(before == .pending && after == .normal)

/-- The condition has a reason (R6). -/
def Condition.hasReason (c : Condition) : Bool := c == .unreachable || c == .sensorFault

/-- The notice of a channel's change (R14); `c` is the record after it. -/
def State.channelNotice (s : State) (n : Nat) (before : Condition) (c : Channel) : Notice :=
  { source := .channel n, generation := c.generation, before := byteOf before.code,
    after := byteOf c.condition.code, detail := byteOf (reasonCode c.reason),
    value := (c.last.map LastReading.value).getD 0, time := s.now,
    classUrgent := match c.binding with
      | some b => b.cls == .urgent
      | none => false }

/-- A channel record with a new condition, its reason by R6 and, in PENDING, its pending-since time. -/
def Channel.settle (c : Channel) (now : Time) (cond : Condition) (reason : Option Reason) : Channel :=
  { c with
    condition := cond
    reason := if cond.hasReason then reason else none
    pendingSince := if cond = .pending then some now else c.pendingSince }

/-- Write a channel's new condition and hand on the change: the notice first, then for a trip member
the report (R13 to R15). `always` says that a report is due even where the condition stays. -/
def State.settle (s : State) (n : Nat) (cond : Condition) (reason : Option Reason)
    (kind : ReportKind) (always : Bool) : State :=
  let before := (s.chan n).condition
  let c := (s.chan n).settle s.now cond reason
  let s1 := s.setChan n c
  let s2 := if noticed before cond then s1.notify (s.channelNotice n before c) else s1
  if c.isMember && (always || before != cond) then s2.memberReport n before cond kind else s2

/-! ## Evaluating a reading (R7 to R9) -/

/-- The reading is taken, not dropped (R7). -/
def State.takes (s : State) (n : Nat) (generation : BitVec 8) : Bool :=
  s.mon.state == .monitoring && (s.chan n).bound && (s.chan n).generation == generation
    && (s.chan n).condition != .unreachable

/-- The reason of SENSOR_FAULT for a reading that is not VALID or shows FAULT (R8). -/
def faultReason (q : Quality) (fault : Bool) : Reason :=
  if fault then .stationFault
  else match q with
    | .valid => .stationFault
    | .openInput => .openInput
    | .range => .range
    | .convertErr => .convertErr

/-- The peaks after a VALID value (R9). -/
def Peaks.update (f : Format) (p : Option Peaks) (v : Count) : Peaks :=
  match p with
  | none => { min := v, max := v }
  | some p =>
    { min := if f.value v < f.value p.min then v else p.min
      max := if f.value p.max < f.value v then v else p.max }

/-- A reading reaches the condition unit (R7 to R13). -/
def State.reading (s : State) (n : Nat) (generation : BitVec 8) (value : Count) (q : Quality)
    (fault : Bool) : State :=
  if !s.takes n generation then s
  else
    let c := s.chan n
    let taken := { c with last := some { value := value, quality := q, time := s.now } }
    match c.binding with
    | none => s
    | some b =>
      if fault || q != .valid then
        (s.setChan n taken).settle n .sensorFault (some (faultReason q fault)) .evaluation true
      else
        (s.setChan n { taken with peaks := some (Peaks.update b.format c.peaks value) }).settle n
          (judge b.format b.limits c.condition (b.format.value value)) none .evaluation true

/-! ## Freshness (R16) -/

/-- The conditions that a freshness step examines (R16). -/
def Condition.examined (c : Condition) : Bool :=
  c != .unbound && c != .stale && c != .unreachable

/-- The time a channel's age is measured from (R16). -/
def Channel.freshFrom (c : Channel) : Option Time :=
  if c.condition = .pending then c.pendingSince else c.last.map LastReading.time

/-- The channel is examined and its age exceeds the stale limit (R16). -/
def State.aged (s : State) (n : Nat) : Bool :=
  (s.chan n).bound && (s.chan n).condition.examined &&
    match (s.chan n).freshFrom with
    | some t => s.mon.params.staleLimit < s.elapsed t
    | none => false

/-- The freshness step over every channel in ascending order (R16). -/
def State.freshness (s : State) : State :=
  channelNumbers.foldl (fun t n => if t.aged n then t.settle n .stale none .change false else t) s

/-! ## Station changes (R23, R24) and START (R25) -/

/-- The channel reason that a station state gives (R6, R23). -/
def StationState.channelReason : StationState → Option Reason
  | .silent => some .silent
  | .absent => some .absent
  | .rejected => some .rejected
  | .unknown | .adopted => none

/-- The channels of a station that has become SILENT, ABSENT or REJECTED (R23). -/
def State.channelsUnreachable (s : State) (a : Nat) (st : StationState) : State :=
  channelNumbers.foldl (fun t n =>
    if (t.chan n).onStation a then t.settle n .unreachable st.channelReason .change false else t) s

/-- The channels of a station that has become ADOPTED from another state (R24). -/
def State.channelsAdopted (s : State) (a : Nat) : State :=
  channelNumbers.foldl (fun t n =>
    match (t.chan n).binding with
    | some b =>
      if b.loc.station = a then
        if (t.stn a).hasPoint b.loc.fn b.loc.point then t.settle n .pending none .change false
        else t.settle n .unreachable (some .noPoint) .change false
      else t
    | none => t) s

/-- The condition unit at a change of a station's state to `st` (R23, R24). -/
def State.channelsOfStation (s : State) (a : Nat) (st : StationState) : State :=
  match st with
  | .adopted => s.channelsAdopted a
  | .silent | .absent | .rejected => s.channelsUnreachable a st
  | .unknown => s

/-- The START rule: every bound channel that is not UNREACHABLE becomes PENDING (R25). -/
def State.channelsStart (s : State) : State :=
  channelNumbers.foldl (fun t n =>
    if (t.chan n).bound && (t.chan n).condition != .unreachable then
      t.settle n .pending none .change false
    else t) s

end Sys2Proof.Machine
end

