-- ==== Sys2Proof/Machine/Jobs.lean ====
section
/-! DEFINITION. The request engine's shared operations: posting a completion, ending a job with the
SYNCs that waited for it, taking the staged request, refusing it (08_requests_and_completions.md). -/

namespace Sys2Proof.Machine

/-! ## Completions (R152 to R154) -/

/-- A completion with no result field filled. -/
def Completion.plain (kind : Byte) (tag : BitVec 16) (status : Status) : Completion :=
  { kind := kind, tag := tag, status := status, generation := 0, head := 0, value := 0,
    stateOrCondition := 0, reason := none, quality := .valid, absent := false, discarded := false,
    notTripped := false, time := 0 }

/-- The result fields of READ_CHANNEL and of a FRESH_READ that is OK (R22, R106). -/
def Completion.withChannel (c : Completion) (ch : Channel) : Completion :=
  match ch.last with
  | some l =>
    { c with
      generation := ch.generation, stateOrCondition := ch.condition.code, reason := ch.reason
      value := l.value, quality := l.quality, time := l.time }
  | none =>
    { c with
      generation := ch.generation, stateOrCondition := ch.condition.code, reason := ch.reason
      absent := true }

/-- Complete a request: its completion takes the request head, claims the slot at the completion
tail, the tail advances, the lap value inverts on a wrap, taken-not-completed goes down by one, and
the write is placed (R152, R153). -/
def State.complete (s : State) (c : Completion) : State :=
  let r := s.ring
  let next := (r.completionTail + 1) % r.completionRingSize
  { s with
    ring := { r with
      completionWrites := r.completionWrites ++
        [{ slot := r.completionTail, lap := r.completionLap,
           record := { c with head := BitVec.ofNat 16 r.requestHead } }]
      completionTail := next
      completionLap := if next = 0 then !r.completionLap else r.completionLap }
    req := { s.req with taken := s.req.taken - 1 } }

/-! ## Ending jobs (R156, R157) -/

/-- A job's SYNC set without a job that has ended. -/
def Job.forget (order : Nat) (j : Job) : Job :=
  match j.work with
  | .sync ws => { j with work := .sync (ws.filter (· != order)) }
  | _ => j

/-- Put the occupied slots in place. -/
def State.setJobs (s : State) (js : List Job) : State := { s with req := { s.req with jobs := js } }

/-- Free the slot of a job, and take the job out of every SYNC's set. -/
def State.freeJob (s : State) (order : Nat) : State :=
  s.setJobs ((s.req.jobs.filter (·.order != order)).map (Job.forget order))

/-- The job is a SYNC whose set is empty (R156). -/
def Job.syncReady (j : Job) : Bool :=
  !j.abandoned && match j.work with
    | .sync ws => ws.isEmpty
    | _ => false

/-- Complete every SYNC whose set has become empty, in take order; each may empty a later one (R156).
At most four slots are occupied, so four rounds reach them all. -/
def State.completeSyncs : Nat → State → State
  | 0, s => s
  | fuel + 1, s =>
    match s.req.jobs.find? Job.syncReady with
    | none => s
    | some j =>
      ((s.freeJob j.order).complete
        (Completion.plain (byteOf RequestKind.sync.code) j.tag .ok)).completeSyncs fuel

/-- A job ends with a completion: the slot is freed, the completion claimed, and after it those of
the SYNCs that waited for it (R156, R157). DESIGN CHOICE: where one happening ends several jobs, a SYNC
whose set empties part way is completed right after the job that empties it, before the remaining
jobs of that happening (log entry 32). -/
def State.endJob (s : State) (order : Nat) (c : Completion) : State :=
  ((s.freeJob order).complete c).completeSyncs Config.slotCount

/-- The job in a slot, by its take order. -/
def State.job (s : State) (order : Nat) : Option Job := s.req.jobs.find? (·.order == order)

/-- The completion of a job that ends with `status`, no result field filled. -/
def Job.completion (j : Job) (status : Status) : Completion :=
  Completion.plain (byteOf j.kind.code) j.tag status

/-! ## Dumps (R159 to R162) -/

/-- The number of records a dump writes (R158). -/
def DumpJob.total (d : DumpJob) : Nat :=
  match d.subject with
  | .channels => d.count
  | .stations => Config.stationCount
  | .summary => 1

/-- Take a dump out of the order of writing dumps, and a NEXT_SWEEP dump's records out of the
capture area (R161). -/
def State.leaveDump (s : State) (order : Nat) (nextSweep : Bool) : State :=
  { s with req := { s.req with
      dumpQueue := s.req.dumpQueue.filter (· != order)
      capture := if nextSweep then [] else s.req.capture } }

/-- The completion of a dump: the records written and, for a captured NEXT_SWEEP dump that is OK, the
begin time of its sweep (R154). -/
def DumpJob.completion (d : DumpJob) (j : Job) (status : Status) : Completion :=
  { j.completion status with
    value := BitVec.ofNat 16 d.written
    time := match status, d.phase with
      | .ok, .writing (some t) => t
      | _, _ => 0 }

/-- A dump ends with `status`. -/
def State.endDump (s : State) (j : Job) (d : DumpJob) (status : Status) : State :=
  (s.leaveDump j.order d.nextSweep).endJob j.order (d.completion j status)

/-- A NEXT_SWEEP dump that has not captured. -/
def Job.waitingDump (j : Job) : Option DumpJob :=
  match j.work with
  | .dump d => match d.phase with
    | .waiting _ => some d
    | .writing _ => none
  | _ => none

/-- End a NEXT_SWEEP dump that has not captured with ABORTED, at STOP or entry to RECOVERING (R161). -/
def State.abortWaitingDump (s : State) : State :=
  match s.req.jobs.find? (fun j => j.waitingDump.isSome && !j.abandoned) with
  | none => s
  | some j => match j.waitingDump with
    | none => s
    | some d => s.endDump j d .aborted

/-- Replace the dump of the job with this take order. -/
def State.setDump (s : State) (order : Nat) (d : DumpJob) : State :=
  s.setJobs (s.req.jobs.map fun j => if j.order = order then { j with work := .dump d } else j)

/-- A completed routine sweep is reported: the sweep present at take has passed, or the dump captures
its channel records (R160). -/
def State.captureAtSweep (s : State) (begun : Time) : State :=
  match s.req.jobs.find? (fun j => j.waitingDump.isSome) with
  | none => s
  | some j => match j.waitingDump with
    | none => s
    | some d =>
      if d.phase = .waiting true then s.setDump j.order { d with phase := .waiting false }
      else
        let s1 := s.setDump j.order { d with phase := .writing (some begun) }
        { s1 with req := { s1.req with
            capture := (List.range d.count).map fun k => s.chan (d.first + k)
            dumpQueue := s1.req.dumpQueue ++ [j.order] } }

/-! ## Taking (R147, R148) -/

/-- Completion credit is available (R148). -/
def State.credit (s : State) : Bool :=
  s.req.taken + s.ring.completionsUnread < s.ring.completionRingSize - 1

/-- A job slot is free. -/
def State.slotFree (s : State) : Bool := s.req.jobs.length < Config.slotCount

/-- The kind field names a kind that needs a slot (R147). -/
def Request.needsSlot (r : Request) : Bool :=
  match Request.kind r with
  | some k => k.isJob
  | none => false

/-- The staged request can be taken (R147). -/
def State.canTake (s : State) (r : Request) : Bool :=
  s.ring.iface == .live && s.ring.requestTail != s.ring.requestHead && s.credit
    && (!Request.needsSlot r || s.slotFree)

/-- The take: the staging place is emptied, the request head advances, taken-not-completed and the
take order go up by one (R147). -/
def State.take (s : State) : State :=
  { s with
    req := { s.req with staged := none, taken := s.req.taken + 1, takeOrder := s.req.takeOrder + 1 }
    ring := { s.ring with requestHead := (s.ring.requestHead + 1) % s.ring.requestRingSize } }

/-- Take the staged request if it is there, its kind field names what is wanted and the take is
possible; then act on its record. In every other case nothing is taken (R147). -/
def State.taking (s : State) (kind : Option RequestKind) (act : Request → State → State) : State :=
  match s.req.staged with
  | some st => if Request.kind st.record = kind ∧ s.canTake st.record then act st.record s.take else s
  | none => s

/-- The completion of a request at its take, no result field filled. -/
def Request.completion (r : Request) (status : Status) : Completion :=
  Completion.plain (Request.kindByte r) (Request.tag r) status

/-- The completion of a request that names a channel below 128: it carries the channel's present
generation (R154). -/
def State.channelCompletion (s : State) (r : Request) (status : Status) : Completion :=
  { Request.completion r status with
    generation := if Request.channel r < Config.channelCount then (s.chan (Request.channel r)).generation
      else 0 }

/-- Refuse a request at checks 1 to 4 (R149): a kind that names a channel below 128 carries that
channel's generation, and no other result field is filled (R154). -/
def State.refuse (s : State) (r : Request) (k : RequestKind) (status : Status) : State :=
  s.complete (if k.namesChannel then s.channelCompletion r status else Request.completion r status)

/-- The fourth check: a kind that names a channel names one below 128 (R149). -/
def Request.channelOk (r : Request) (k : RequestKind) : Bool :=
  !k.namesChannel || Request.channel r < Config.channelCount

/-- Checks 2 to 4 of R149 in their order, then what the kind does. -/
def State.checked (s : State) (k : RequestKind) (r : Request) (act : State → State) : State :=
  if !Request.fieldsOk r k then s.refuse r k .badField
  else if !Request.permitted r k s.mon.state then s.refuse r k .badState
  else if !Request.channelOk r k then s.refuse r k .badChannel
  else act s

/-- Take and check a request of kind `k`, then act (R147, R149). -/
def State.request (s : State) (k : RequestKind) (act : Request → State → State) : State :=
  s.taking (some k) fun r t => t.checked k r (act r)

/-- Place a job in a free slot (R150, R157). -/
def State.place (s : State) (r : Request) (k : RequestKind) (work : JobWork) : State :=
  s.setJobs (s.req.jobs ++
    [{ order := s.req.takeOrder, kind := k, tag := Request.tag r, abandoned := false, work := work }])

end Sys2Proof.Machine
end

