-- ==== Sys2Proof/Machine/Activities.lean ====
section
/-! DEFINITION. How activities of the link end: their transaction is orphaned, their probe abandoned,
their position discarded, their job completed (R73, R92, R103 to R110). -/

namespace Sys2Proof.Machine

/-- Put the link scheduler in place. -/
def State.setSched (s : State) (k : Scheduler) : State := { s with sched := k }

/-- Put the monitor controller in place. -/
def State.setMon (s : State) (m : Monitor) : State := { s with mon := m }

/-- Put the Drop Bus controller in place. -/
def State.setBus (s : State) (b : DropBus) : State := { s with bus := b }

/-- The activity of a transaction in progress has ended: no activity advances on its outcome (R92). -/
def State.orphan (s : State) (act : Activity) : State :=
  match s.bus.txn with
  | some t => if t.activity = act then s.setBus { s.bus with txn := some { t with orphan := true } } else s
  | none => s

/-- Abandon a probe: the roster removes the holder, if it is this activity (R73). -/
def State.dropHold (s : State) (act : Activity) (a : Nat) : State :=
  if (s.stn a).holder = some act then s.setStn a { s.stn a with holder := none } else s

/-- Abandon the probe of a walk, where one is in progress. -/
def State.dropWalk (s : State) (act : Activity) (w : ProbeWalk) : State :=
  match w.probe with
  | some p => s.dropHold act p.address
  | none => s

/-! ## The sweep and the pass -/

/-- Discard the routine sweep with its position (R109, R110). -/
def State.discardSweep (s : State) : State :=
  let s1 := match s.sched.sweep with
    | some w => match w.position with
      | .probing p => s.dropHold .sweep p.address
      | _ => s
    | none => s
  (s1.setSched { s1.sched with sweep := none }).orphan .sweep

/-- Discard the attention pass with its position (R109, R110). -/
def State.discardPass (s : State) : State :=
  (s.setSched { s.sched with pass := none }).orphan .attention

/-- Stop the sweep timer, discard the sweep, the owed sweep and the pass, and zero the empty-pass
count (R109, R110). -/
def State.stopSweeping (s : State) : State :=
  let s1 := s.discardSweep.discardPass
  s1.setSched { s1.sched with timer := none, owedSweep := false, emptyPasses := 0 }

/-- The link activities pass over a station that has left ADOPTED: a visit to it ends (R65, R95). -/
def State.passOver (s : State) (a : Nat) : State :=
  let sweep := s.sched.sweep.map fun w => match w.position with
    | .visiting v => if v.address = a then { w with position := .after a } else w
    | _ => w
  let pass := s.sched.pass.map fun p => match p.position with
    | .visiting v => if v.address = a then { p with position := .after a } else p
    | _ => p
  s.setSched { s.sched with sweep := sweep, pass := pass }

/-! ## Link jobs (R103, R107, R108) -/

/-- The running job is the one with this take order. -/
def Scheduler.isRunning (k : Scheduler) (order : Nat) : Bool :=
  match k.jobs with
  | j :: _ => j.order == order
  | [] => false

/-- The job with this take order leaves the link-job queue. -/
def State.dequeue (s : State) (order : Nat) : State :=
  s.setSched { s.sched with jobs := s.sched.jobs.filter (·.order != order) }

/-- What ends with a running job: its transaction is orphaned and its probe abandoned (R73, R92). -/
def State.cutLinkJob (s : State) (j : LinkJob) : State :=
  let s1 := match j.work with
    | .rescan _ w => s.dropWalk .job w
    | .fresh _ => s
  if s1.sched.isRunning j.order then s1.orphan .job else s1

/-- The completion of a link job that ends with `status`; a FRESH_READ carries the generation
recorded at its take (R154). -/
def Job.linkCompletion (j : Job) (status : Status) : Completion :=
  match j.work with
  | .link g => { j.completion status with generation := g }
  | _ => j.completion status

/-- A link job ends with `status` (R107, R108). A job that is already abandoned writes no completion
and keeps its slot and its place until its boundary (R165). -/
def State.endLinkJob (s : State) (j : LinkJob) (status : Status) : State :=
  let s1 := s.cutLinkJob j
  if j.abandoned then s1
  else
    let s2 := s1.dequeue j.order
    match s2.job j.order with
    | some slot => s2.endJob j.order (slot.linkCompletion status)
    | none => s2

/-- End the given link jobs in queue order. -/
def State.endLinkJobs (s : State) (js : List LinkJob) (status : Status) : State :=
  js.foldl (fun t j => t.endLinkJob j status) s

/-- A FRESH_READ on a channel of the station at address `a`. -/
def State.freshOn (s : State) (a : Nat) (j : LinkJob) : Bool :=
  match j.work with
  | .fresh f => (s.chan f.channel).onStation a
  | .rescan _ _ => false

/-- The station has left ADOPTED for a reason other than LINK_FAULT: every FRESH_READ on a channel of
it ends STATION_LOST, and the activities pass over it (R65, R107). -/
def State.stationLost (s : State) (a : Nat) : State :=
  (s.endLinkJobs (s.sched.jobs.filter (s.freshOn a)) .stationLost).passOver a

/-- An abandoned running job has reached the end of its transaction: it leaves the queue and its slot
is freed, without a completion (R103, R165). -/
def State.leaveIfAbandoned (s : State) : State :=
  match s.sched.jobs with
  | j :: _ => if j.abandoned then ((s.cutLinkJob j).dequeue j.order).freeJob j.order else s
  | [] => s

end Sys2Proof.Machine
end

