-- ==== Sys2Proof/Machine/Roster.lean ====
section
/-! DEFINITION. The station roster's shared operations: plans, the records that each change of state
leaves, and the handing on of a change (04_the_station_roster.md). -/

namespace Sys2Proof.Machine

/-! ## Plans (R82, R83) -/

/-- A bound channel at the station and function whose point exists in the identity, URGENT if asked. -/
def Channel.wants (c : Channel) (a fn : Nat) (r : Station) (urgentOnly : Bool) : Bool :=
  match c.binding with
  | some b => b.loc.station == a && b.loc.fn == fn && r.hasPoint b.loc.fn b.loc.point
      && (!urgentOnly || b.cls == .urgent)
  | none => false

/-- The plan of the station at address `a` as the channel table, the identity as last read and
attention use give it (R82). -/
def State.derivedPlan (s : State) (a : Nat) : Plan :=
  let r := s.stn a
  { fns := flagsOf fun f => s.channels.toList.any fun c => c.wants a f r false
    attn := flagsOf fun f =>
      s.mon.params.attentionUse && s.channels.toList.any fun c => c.wants a f r true }

/-- Derive the plan afresh: a plan that differs replaces the one held and clears plan-applied (R83). -/
def State.rederive (s : State) (a : Nat) : State :=
  let p := s.derivedPlan a
  if p = (s.stn a).plan then s else s.setStn a { s.stn a with plan := p, planApplied := false }

/-- Derive every station's plan afresh (R83). -/
def State.rederiveAll (s : State) : State := addresses.foldl State.rederive s

/-! ## The records that changes of state leave -/

/-- The next reprobe time set now (R79). -/
def State.reprobeTime (s : State) : Time := s.later s.mon.params.reprobeInterval

/-- The owed flags and raised-again marks are cleared when a station leaves ADOPTED (R85). -/
def Station.leaveAdopted (r : Station) : Station :=
  if r.state = .adopted then { r with owed := 0, raisedAgain := 0 } else r

/-- The record of a station found ABSENT (R68, R72). Leaving SILENT removes the reprobe time (R79). -/
def Station.toAbsent (r : Station) : Station :=
  { r.leaveAdopted with state := .absent, reason := none, reprobeAt := none }

/-- The record of a station that enters SILENT (R72, R77, R80). -/
def Station.toSilent (r : Station) (reason : Reason) (reprobeAt : Time) : Station :=
  { r.leaveAdopted with
    state := .silent, reason := some reason, reprobeAt := some reprobeAt, missCount := 0 }

/-- The record of a rejected station (R68, R69, R72, R78). -/
def Station.toRejected (r : Station) (reason : Reason) : Station :=
  { r.leaveAdopted with state := .rejected, reason := some reason, reprobeAt := none }

/-- The holder is removed: the probe has ended (R67). -/
def Station.endProbe (r : Station) : Station := { r with holder := none }

/-- The identity as last read, where both its parts have been read. -/
def Station.identity (r : Station) : Option Fingerprint :=
  match r.classRev, r.shape with
  | some cr, some sh => some { classRev := cr, shape := sh }
  | _, _ => none

/-- The record of an adopted station: the fingerprint becomes the identity as last read (R71, R75). -/
def Station.toAdopted (r : Station) : Station :=
  { r with
    state := .adopted, reason := none, reprobeAt := none, missCount := 0, owed := 0,
    raisedAgain := 0
    fingerprint := r.identity }

/-- Plan-applied after a plan write that ended DONE: set if the plan held is still the one written
(R71, R84). DESIGN CHOICE: where it is not and plan-applied has been set meanwhile by another activity's
write, it is left set (log entry 30). DESIGN CHOICE: the plans alone are compared, so a plan that
derivations changed and changed back since the write was issued counts as still the one written (log
entry 37). -/
def Station.applied (r : Station) (written : Plan) : Station :=
  { r with planApplied := r.planApplied || r.plan == written }

/-! ## Handing on a change (R65) -/

/-- The class as last read, as an event value; 0 when none has been read (R28). -/
def Station.classValue (r : Station) : Count :=
  match r.classRev with
  | some cr => cr.cls.setWidth 16
  | none => 0

/-- The notice of a station, from one state to another (R27, R65). -/
def State.stationNotice (s : State) (a : Nat) (before after : StationState) (detail : Nat) : Notice :=
  { source := .station a, generation := 0, before := byteOf before.code, after := byteOf after.code,
    detail := byteOf detail, value := (s.stn a).classValue, time := s.now, classUrgent := false }

/-- A station note: from and to are both the present state (R27, R86, R87). -/
def State.note (s : State) (a : Nat) (detail : Reason) : State :=
  s.notify (s.stationNotice a (s.stn a).state (s.stn a).state detail.code)

/-- Any guard poll present is ended, and the next guard poll time is absent (R134, R138). -/
def State.endGuardPoll (s : State) : State :=
  (s.setMon { s.mon with guardPoll := none, nextGuardPoll := none }).orphan .guardPoll

/-- Station 1 leaves ADOPTED while guard is active: GUARD_LOST, then the end of the guard poll
(R56, R134). -/
def State.guardStationLost (s : State) : State := s.guardLost.endGuardPoll

/-- A station's record becomes `r`. A change of state is handed to the event unit, the condition unit
and, for station 1 leaving ADOPTED in guard, the trip unit (R65, steps 1 to 3). A change of reason
alone is handed to none (R64). -/
def State.moveStation (s : State) (a : Nat) (r : Station) : State :=
  let before := (s.stn a).state
  let s1 := s.setStn a r
  if before = r.state then s1
  else
    let s2 := s1.notify (s1.stationNotice a before r.state (reasonCode r.reason))
    let s3 := s2.channelsOfStation a r.state
    if a = 1 ∧ before = .adopted ∧ s3.mon.guardActive then s3.guardStationLost else s3

/-- Every ADOPTED station is taken out of use, one at a time in ascending address order (R80). -/
def State.takeOutOfUse (s : State) : State :=
  addresses.foldl (fun t a =>
    if (t.stn a).state = .adopted then
      t.moveStation a { (t.stn a).toSilent .linkFault t.reprobeTime with planApplied := false }
    else t) s

/-- Every SILENT station's reprobe time is set to now, at START (R79). -/
def State.reprobeNow (s : State) : State :=
  addresses.foldl (fun t a =>
    if (t.stn a).state = .silent then t.setStn a { t.stn a with reprobeAt := some t.now } else t) s

end Sys2Proof.Machine
end

