-- ==== Sys2Proof/Machine/MonitorControl.lean ====
section
/-! DEFINITION. The monitor controller's shared operations: the link state, entry to RECOVERING,
guard line recovery, the reports it acts on, and the end of enumeration and recovery
(07_monitor_states_recovery_and_timekeeping.md). -/

namespace Sys2Proof.Machine

/-! ## The link state (R136) -/

/-- The link becomes faulted: unless the line part is already FAULTED, LINK_FAULT is handed and the
trip unit records the fault start. -/
def State.makeFaulted (s : State) (reason : LinkReason) : State :=
  if s.mon.lineFaulted then s
  else
    ((s.setMon { s.mon with lineFaulted := true }).notify
      (s.linkNotice (linkCode false s.mon.attnPartStuck) (linkCode true s.mon.attnPartStuck)
        reason.code)).tripLinkFaulted

/-- The link is restored: LINK_RESTORED is handed and then the trip unit is told. -/
def State.restoreLink (s : State) : State :=
  ((s.setMon { s.mon with lineFaulted := false }).notify
    (s.linkNotice (linkCode s.mon.lineFaulted s.mon.attnPartStuck)
      (linkCode false s.mon.attnPartStuck) 0)).tripLinkRestored

/-- The attention part changes and its notice is handed (R102, R136). -/
def State.setAttnPart (s : State) (stuck : Bool) : State :=
  (s.setMon { s.mon with attnPartStuck := stuck }).notify
    (s.linkNotice (linkCode s.mon.lineFaulted s.mon.attnPartStuck)
      (linkCode s.mon.lineFaulted stuck) 0)

/-! ## Recovery (R141, R142) -/

/-- Put a recovery stage in place, with its reason. -/
def State.setRecovery (s : State) (stage : RecoveryStage) (reason : LinkReason) : State :=
  s.setMon { s.mon with recovery := some { stage := stage, reason := reason } }

/-- A release round begins: the rounds counter goes up (R142). -/
def State.beginRound (s : State) (reason : LinkReason) : State :=
  let s1 := s.setRecovery .releaseRound reason
  s1.setMon { s1.mon with rounds := s1.mon.rounds + 1 }

/-- A primitive in progress runs to its end and its report is discarded (R135, R138, R144). -/
def State.discardPrimitive (s : State) : State :=
  s.setBus { s.bus with primitive := s.bus.primitive.map fun p => { p with discard := true } }

/-- An enumeration in progress is ended and its probe abandoned (R141, R144). -/
def State.endEnumeration (s : State) : State :=
  match s.mon.enumeration with
  | some w =>
    let s1 := (s.dropWalk .enumeration w).orphan .enumeration
    s1.setMon { s1.mon with enumeration := none }
  | none => s

/-- A probe in progress in the probing stage is abandoned (R142). -/
def State.dropRecoveryProbe (s : State) : State :=
  match s.mon.recovery with
  | some r => match r.stage with
    | .probing w => (s.dropWalk .recovery w).orphan .recovery
    | _ => s
  | none => s

/-- Recovery in progress is ended at whatever stage it stands (R138, R144). -/
def State.endRecovery (s : State) : State :=
  let s1 := s.dropRecoveryProbe.discardPrimitive
  s1.setMon { s1.mon with recovery := none }

/-- The running link job ends with LINK_RESET; the waiting ones stay queued (R110). -/
def State.resetRunningJob (s : State) : State :=
  match s.sched.jobs with
  | j :: _ => s.endLinkJob j .linkReset
  | [] => s

/-- Entry to RECOVERING (R141): the five steps in their order. -/
def State.enterRecovering (s : State) (reason : LinkReason) : State :=
  let s1 := (s.setMon { s.mon with state := .recovering }).makeFaulted reason
  let s2 := s1.takeOutOfUse
  let s3 := s2.stopSweeping.resetRunningJob.endEnumeration
  let s4 := s3.abortWaitingDump
  match reason with
  | .lineStuck => s4.beginRound reason
  | .collectiveSilence => s4.setRecovery .broadcastReset reason

/-- A guard start-up or guard reprobe in progress ends: its probe is abandoned, and a broadcast reset
runs to its end with its report discarded (R135, R138). -/
def State.endGuardWork (s : State) : State :=
  let s1 := match s.mon.guardStage with
    | some (.startup _ (some p)) => (s.dropHold .guardStartup p.address).orphan .guardStartup
    | _ => s
  let s2 := match s1.mon.guardReprobe with
    | some w => (s1.dropWalk .guardReprobe w).orphan .guardReprobe
    | none => s1
  (s2.setMon { s2.mon with guardReprobe := none }).discardPrimitive

/-- Guard line recovery begins (R135). -/
def State.beginGuardLineRecovery (s : State) : State :=
  let s1 := s.endGuardWork
  let s2 := (s1.setMon { s1.mon with guardStage := some .lineRecovery, guardPoll := none }).orphan
    .guardPoll
  ((s2.makeFaulted .lineStuck).takeOutOfUse).beginRound .lineStuck

/-- A LINE_STUCK report taken in a recovery: in the probing stage the probe is abandoned and a new
release round begins; in any other stage there is no action (R142). -/
def State.stuckInRecovery (s : State) : State :=
  match s.mon.recovery with
  | some r => match r.stage with
    | .probing _ => s.dropRecoveryProbe.beginRound r.reason
    | _ => s
  | none => s

/-- A LINE_STUCK report reaches the monitor controller (R141). -/
def State.lineStuck (s : State) : State :=
  match s.mon.state with
  | .guarding => match s.mon.guardStage with
    | some .lineRecovery => s.stuckInRecovery
    | _ => s.beginGuardLineRecovery
  | .stopped => s
  | .enumerating | .monitoring => s.enterRecovering .lineStuck
  | .recovering => s.stuckInRecovery

/-- A collective silence report reaches the monitor controller (R81, R141). -/
def State.collectiveSilence (s : State) : State :=
  match s.mon.state with
  | .enumerating | .monitoring => s.enterRecovering .collectiveSilence
  | .guarding | .stopped | .recovering => s

/-- Report LINE_STUCK unless it is already reported (R118, R126). -/
def State.reportStuck (s : State) : State :=
  if s.bus.stuckReported then s else (s.setBus { s.bus with stuckReported := true }).lineStuck

/-! ## Monitoring begins (R93, R140, R143) -/

/-- Start the sweep timer with the period in force: next firing one period from now (R93). -/
def State.startTimer (s : State) : State :=
  let period := s.mon.params.sweepPeriod
  s.setSched { s.sched with timer := some { next := s.later period, period := period } }

/-- The enumeration has probed its last masked address (R140). -/
def State.finishEnumeration (s : State) : State :=
  let s1 := s.setMon { s.mon with rosterComplete := true, enumeration := none }
  let s2 := if s1.mon.lineFaulted then s1.restoreLink else s1
  s2.setMon { s2.mon with state := .monitoring }

/-- A guard poll becomes due at once if station 1 is ADOPTED (R132, R134, R135). -/
def State.pollAtOnce (s : State) : State :=
  if (s.stn 1).state = .adopted then s.setMon { s.mon with nextGuardPoll := some s.now } else s

/-- The probing stage has probed its last address: the end of recovery (R143), or of guard line
recovery (R135). -/
def State.finishRecovery (s : State) : State :=
  if s.mon.state = .guarding then
    let s1 := s.restoreLink
    (s1.setMon { s1.mon with recovery := none, guardStage := some .watching }).pollAtOnce
  else
    let s1 := s.restoreLink
    (s1.setMon { s1.mon with
      rosterComplete := true, recovery := none, state := .monitoring }).startTimer

/-- The addresses that the probing stage visits: address 1 alone in guard line recovery, else the
station mask (R135, R142). -/
def State.recoveryAddresses (s : State) : List Nat :=
  if s.mon.state = .guarding then [1] else setAddresses s.mon.params.stationMask

/-! ## The reports of the primitives (R132, R142) -/

/-- The release sequence reports (R142). -/
def State.releaseReport (s : State) (clear : Bool) : State :=
  match s.mon.recovery with
  | some r =>
    if r.stage = .releaseRound then
      if clear then s.setRecovery .broadcastReset r.reason
      else s.setRecovery (.retryWait s.now) r.reason
    else s
  | none => s

/-- The broadcast reset reports that it was not sent (R132, R142). -/
def State.broadcastNotSent (s : State) : State :=
  match s.mon.recovery with
  | some r => if r.stage = .broadcastReset then s.beginRound r.reason else s
  | none => match s.mon.guardStage with
    | some (.startup _ _) => s.beginGuardLineRecovery
    | _ => s

/-- The broadcast reset reports that it was sent and its settle has ended (R132, R142). -/
def State.broadcastSent (s : State) : State :=
  match s.mon.recovery with
  | some r =>
    if r.stage = .broadcastReset then s.setRecovery (.probing { last := 0, probe := none }) r.reason
    else s
  | none => match s.mon.guardStage with
    | some (.startup _ p) => s.setMon { s.mon with guardStage := some (.startup true p) }
    | _ => s

end Sys2Proof.Machine
end

