-- ==== Sys2Proof/Machine/Scheduler.lean ====
section
/-! DEFINITION. The link scheduler: what each activity's next transaction is, derived afresh from its
position and the tables, how a transaction is issued, and the ends of sweep and pass
(05_sharing_the_link_sweeps_attention_and_jobs.md). -/

namespace Sys2Proof.Machine

/-! ## Issuing (R89, R91, R116) -/

/-- The link is idle: no transaction and no primitive (R89). -/
def State.linkIdle (s : State) : Bool := s.bus.txn.isNone && s.bus.primitive.isNone

/-- The start check has passed: DB_DAT was seen high, the request frame is sent, and the response
window opens (R116, R126). -/
def State.sendFrame (s : State) (t : Transaction) : State :=
  s.setBus { s.bus with
    txn := some { t with phase := .awaiting }
    stuckReported := false
    lastFrame := requestFrame t.address t.register t.data }

/-- An attempt begins with its start check: it waits while DB_DAT is low, and goes on at once while
it is high (R116). -/
def State.startAttempt (s : State) (t : Transaction) : State :=
  if s.bus.datLow then s.setBus { s.bus with txn := some { t with phase := .startCheck } }
  else s.sendFrame t

/-- A READ of a station register. -/
def readTxn (act : Activity) (a register : Nat) (p : Purpose) : Transaction :=
  { address := a, register := register, data := none, activity := act, purpose := p,
    orphan := false, second := false, phase := .startCheck }

/-- A WRITE of a station's CONTROL register. -/
def writeTxn (act : Activity) (a : Nat) (data : BitVec 16) (p : Purpose) : Transaction :=
  { address := a, register := regControl, data := some data, activity := act, purpose := p,
    orphan := false, second := false, phase := .startCheck }

/-- Write the plan held, with ACK_RESET (R84, R86). -/
def State.issuePlanWrite (s : State) (act : Activity) (a : Nat) : State :=
  s.startAttempt (writeTxn act a (planWord (s.stn a).plan) (.planWrite (s.stn a).plan))

/-- Write the plan held with one convert-now bit (R84). -/
def State.issueConvert (s : State) (act : Activity) (a fn : Nat) : State :=
  s.startAttempt (writeTxn act a (convertWord (s.stn a).plan fn) .convertWrite)

/-- Read STATUS. -/
def State.issueStatus (s : State) (act : Activity) (a : Nat) : State :=
  s.startAttempt (readTxn act a regStatus .statusRead)

/-- Read the QUALITY of a function. -/
def State.issueQuality (s : State) (act : Activity) (a fn : Nat) : State :=
  s.startAttempt (readTxn act a (regQuality fn) (.qualityRead fn))

/-- Read the READING of a point, tagged when it is read for a channel (R91). -/
def State.issueReading (s : State) (act : Activity) (a fn point : Nat) (tag : Option ReadingTag) :
    State :=
  s.startAttempt (readTxn act a (regReading fn point) (.readingRead fn point tag))

/-- The tag of a reading for channel `n`: its generation now, and what the visit saw (R91). -/
def State.readingTag (s : State) (n point : Nat) (quality : Option (BitVec 16)) (fault : Bool) :
    ReadingTag :=
  { channel := n, generation := (s.chan n).generation, quality := quality.map (qualityOf · point),
    fault := fault }

/-! ## Probes (R67 to R71) -/

/-- A probe of an address before its first step. -/
def Probe.start (a : Nat) : Probe := { address := a, step := .id0, written := { fns := 0, attn := 0 } }

/-- The step after one that ended DONE. -/
def ProbeStep.next : ProbeStep → ProbeStep
  | .id0 => .id1
  | .id1 => .control
  | .control => .status
  | .status => .status

/-- The activity holds the probe of the address. -/
def State.holds (s : State) (act : Activity) (a : Nat) : Bool := (s.stn a).holder == some act

/-- Issue the next step of a probe; the first takes the hold of the address (R67), the third derives
the plan it writes (R70). It also answers the probe with the plan that its step 3 wrote. -/
def State.issueProbe (s : State) (act : Activity) (p : Probe) : State × Probe :=
  match p.step with
  | .id0 =>
    let s1 := s.setStn p.address { s.stn p.address with holder := some act }
    (s1.startAttempt (readTxn act p.address regId0 (.probeStep .id0 p.written)), p)
  | .id1 => (s.startAttempt (readTxn act p.address regId1 (.probeStep .id1 p.written)), p)
  | .control =>
    let s1 := s.rederive p.address
    let plan := (s1.stn p.address).plan
    (s1.startAttempt (writeTxn act p.address (planWord plan) (.probeStep .control plan)),
      { p with written := plan })
  | .status => (s.startAttempt (readTxn act p.address regStatus (.probeStep .status p.written)), p)

/-- The probe that a walk over addresses makes next: the one in progress while its hold stands, else
one of the next address (R67, R108). -/
def State.walkNext (s : State) (act : Activity) (as : List Nat) (w : ProbeWalk) : Option Probe :=
  match w.probe with
  | some p => if s.holds act p.address then some p else (nextAbove as p.address).map Probe.start
  | none => (nextAbove as w.last).map Probe.start

/-- The walk with this probe in progress. -/
def ProbeWalk.at_ (p : Probe) : ProbeWalk := { last := p.address - 1, probe := some p }

/-- The walk after a probe step: the probe goes on while the activity still holds it, else it has
ended (R67). -/
def State.walkAfter (s : State) (act : Activity) (a : Nat) (step : ProbeStep) (written : Plan) :
    ProbeWalk :=
  if s.holds act a then ProbeWalk.at_ { address := a, step := step.next, written := written }
  else { last := a, probe := none }

/-! ## Visits (R96, R97, R100) -/

/-- A visit before its first transaction. -/
def Visit.start (a : Nat) : Visit :=
  { address := a, stage := .begin, fault := false, quality := none, allDone := false,
    reported := false }

/-- The channel bound to a point. -/
def State.channelAt (s : State) (loc : Location) : Option Nat :=
  channelNumbers.find? fun n => (s.chan n).loc == some loc

/-- The next bound point of a function after the last one read, whose point exists (R96). -/
def State.nextPoint (s : State) (a fn : Nat) (last : Option Nat) : Option Nat :=
  (List.range 8).find? fun p =>
    (match last with | some q => q < p | none => true)
      && (s.channelAt { station := a, fn := fn, point := p }).isSome && (s.stn a).hasPoint fn p

/-- The function is read by a sweep, or by an attention pass (R96, R100). -/
def Station.reads (r : Station) (attention : Bool) (fn : Nat) : Bool :=
  if attention then r.owed.getLsbD fn && r.plan.attn.getLsbD fn else r.plan.fns.getLsbD fn

/-- The next transaction of a visit. -/
inductive VisitNext where
  | planWrite
  | statusRead
  | quality (fn : Nat)
  | point (fn p : Nat)
  | over
  deriving DecidableEq, Repr

/-- The first function from `from_` on that the visit reads. -/
def State.functionFrom (s : State) (attention : Bool) (a from_ : Nat) : VisitNext :=
  match (List.range 4).find? fun f => from_ ≤ f && (s.stn a).reads attention f with
  | some f => .quality f
  | none => .over

/-- The visit's next transaction, from its position and the tables as they stand (R90, R96). -/
def State.visitNext (s : State) (attention : Bool) (v : Visit) : VisitNext :=
  match v.stage with
  | .begin => if (s.stn v.address).planApplied then .statusRead else .planWrite
  | .status => .statusRead
  | .replan => .planWrite
  | .functions => s.functionFrom attention v.address 0
  | .inFunction f last =>
    match s.nextPoint v.address f last with
    | some p => .point f p
    | none => s.functionFrom attention v.address (f + 1)

/-- Issue a visit's next transaction. The issue of a QUALITY read clears the function's raised-again
mark (R85). -/
def State.issueVisit (s : State) (act : Activity) (v : Visit) : VisitNext → State
  | .planWrite => s.issuePlanWrite act v.address
  | .statusRead => s.issueStatus act v.address
  | .quality f =>
    let r := s.stn v.address
    (s.setStn v.address { r with raisedAgain := clearBit r.raisedAgain f }).issueQuality act v.address f
  | .point f p =>
    let tag := (s.channelAt { station := v.address, fn := f, point := p }).map fun n =>
      s.readingTag n p v.quality v.fault
    s.issueReading act v.address f p tag
  | .over => s

/-- The function of the visit has been read whole with all DONE and is not reported yet: the roster
clears its owed flag, unless it has been raised again (R85, R96). DESIGN CHOICE: the test is that of
the raised-again mark, so a flag first seen after the QUALITY read was issued is cleared too, though
R85's closing sentence says it stays owed (log entry 29). DESIGN CHOICE: the mark is tested as it
stands at the report, even where the QUALITY read of another visit to the function, a pass's while the
sweep's is suspended, has cleared it since this visit's own (log entry 39). -/
def State.reportFunction (s : State) (v : Visit) : State × Visit :=
  match v.stage with
  | .inFunction f last =>
    if v.allDone && !v.reported && (s.nextPoint v.address f last).isNone then
      let r := s.stn v.address
      let owed := if r.raisedAgain.getLsbD f then r.owed else clearBit r.owed f
      (s.setStn v.address { r with owed := owed }, { v with reported := true })
    else (s, v)
  | _ => (s, v)

/-! ## The routine sweep (R93 to R98) -/

/-- What the sweep does next. -/
inductive SweepNext where
  | visit (v : Visit) (what : VisitNext)
  | probe (p : Probe)
  | finish
  deriving DecidableEq, Repr

/-- The next station that a sweep visits: ADOPTED, with a non-empty plan or plan-applied clear (R95). -/
def State.nextVisited (s : State) (last : Nat) : Option Nat :=
  addresses.find? fun a =>
    last < a && (s.stn a).state == .adopted
      && ((s.stn a).plan.fns != 0 || (s.stn a).plan.attn != 0 || !(s.stn a).planApplied)

/-- A SILENT station whose reprobe time has come and whose probe holder is absent (R79). -/
def State.reprobeDue (s : State) (a : Nat) : Bool :=
  (s.stn a).state == .silent && (s.stn a).holder.isNone &&
    match (s.stn a).reprobeAt with
    | some t => s.reached t
    | none => false

/-- The reprobes from an address on, then the end (R98). -/
def State.reprobesFrom (s : State) (last : Nat) : SweepNext :=
  match addresses.find? fun a => last < a && s.reprobeDue a with
  | some a => .probe (Probe.start a)
  | none => .finish

/-- The visits from an address on, then the reprobes (R95). -/
def State.visitsFrom (s : State) (last : Nat) : SweepNext :=
  match s.nextVisited last with
  | some a => .visit (Visit.start a) (s.visitNext false (Visit.start a))
  | none => s.reprobesFrom 0

/-- What the sweep does next from its position (R90, R95, R98). -/
def State.sweepNext (s : State) : SweepPosition → SweepNext
  | .after a => s.visitsFrom a
  | .visiting v =>
    if (s.stn v.address).state = .adopted then
      match s.visitNext false v with
      | .over => s.visitsFrom v.address
      | what => .visit v what
    else s.visitsFrom v.address
  | .reprobesAfter a => s.reprobesFrom a
  | .probing p => if s.holds .sweep p.address then .probe p else s.reprobesFrom p.address

/-- Begin a routine sweep (R93). -/
def State.beginSweep (s : State) : State :=
  s.setSched { s.sched with sweep := some { beginTime := s.now, position := .after 0 } }

/-- Put the sweep at a position. -/
def State.setSweep (s : State) (position : SweepPosition) : State :=
  s.setSched { s.sched with sweep := s.sched.sweep.map fun w => { w with position := position } }

/-- The sweep completes: it is counted, reported to the request engine, and absent; an owed sweep
begins at once (R94, R98). -/
def State.completeSweep (s : State) : State :=
  match s.sched.sweep with
  | none => s
  | some w =>
    let s1 := s.setSched { s.sched with
      sweepsCompleted := s.sched.sweepsCompleted + 1, sweep := none }
    let s2 := s1.captureAtSweep w.beginTime
    if s2.sched.owedSweep then (s2.setSched { s2.sched with owedSweep := false }).beginSweep else s2

/-- The sweep completes if nothing is left to visit or reprobe (R98). -/
def State.sweepMayEnd (s : State) : State :=
  match s.sched.sweep with
  | none => s
  | some w => if s.sweepNext w.position = .finish then s.completeSweep else s

/-- Report the function that the sweep's visit has just finished, if any (R96). -/
def State.reportSweep (s : State) : State :=
  match s.sched.sweep with
  | some w => match w.position with
    | .visiting v =>
      let d := s.reportFunction v
      d.1.setSweep (.visiting d.2)
    | _ => s
  | none => s

/-- The SWEEP rank is granted to the routine sweep: one transaction is issued, or the sweep is found
to be complete (R89, R98). -/
def State.grantSweep (s : State) : State :=
  let s1 := s.reportSweep
  match s1.sched.sweep with
  | none => s1
  | some w => match s1.sweepNext w.position with
    | .visit v what => (s1.setSweep (.visiting v)).issueVisit .sweep v what
    | .probe p =>
      let d := s1.issueProbe .sweep p
      d.1.setSweep (.probing d.2)
    | .finish => s1.completeSweep

/-! ## Attention (R99 to R102) -/

/-- An ADOPTED station holds an owed flag on a function whose attention enable is set. -/
def State.owesAttention (s : State) (a : Nat) : Bool :=
  (s.stn a).state == .adopted && ((s.stn a).owed &&& (s.stn a).plan.attn) != 0

/-- The ATTENTION rank has work (05, section 5.1). -/
def State.attentionHasWork (s : State) : Bool :=
  s.mon.state == .monitoring && !s.sched.attnStuck
    && ((s.bus.attnLow && s.mon.params.attentionUse) || addresses.any s.owesAttention)

/-- The running job is a FRESH_READ on a channel of the station whose convert-now has ended DONE. -/
def State.freshAckedOn (s : State) (a : Nat) : Bool :=
  match s.sched.jobs with
  | j :: _ => match j.work with
    | .fresh f => f.acked && s.freshOn a j
    | .rescan _ _ => false
  | [] => false

/-- The next station that an attention pass visits (R99). -/
def State.nextAttended (s : State) (last : Nat) : Option Nat :=
  addresses.find? fun a =>
    last < a && (s.stn a).state == .adopted && ((s.stn a).plan.attn != 0 || s.freshAckedOn a)

/-- The visits of a pass from an address on; `none` when no address is left. -/
def State.attendFrom (s : State) (last : Nat) : Option (Visit × VisitNext) :=
  (s.nextAttended last).map fun a => (Visit.start a, s.visitNext true (Visit.start a))

/-- What the pass does next from its position (R99, R100). -/
def State.passNext (s : State) : PassPosition → Option (Visit × VisitNext)
  | .after a => s.attendFrom a
  | .visiting v =>
    if (s.stn v.address).state = .adopted then
      match s.visitNext true v with
      | .over => s.attendFrom v.address
      | what => some (v, what)
    else s.attendFrom v.address

/-- Put the pass at a position. -/
def State.setPass (s : State) (position : PassPosition) : State :=
  s.setSched { s.sched with pass := s.sched.pass.map fun p => { p with position := position } }

/-- Mark attention stuck: the count returns to 0 and ATTN_STUCK is handed (R102). -/
def State.markAttnStuck (s : State) : State :=
  (s.setSched { s.sched with attnStuck := true, emptyPasses := 0 }).setAttnPart true

/-- The pass ends: it is counted and judged empty or not (R101). -/
def State.endPass (s : State) : State :=
  match s.sched.pass with
  | none => s
  | some p =>
    let s1 := s.setSched { s.sched with
      attentionPasses := s.sched.attentionPasses + 1, pass := none }
    if !p.foundFlag && s1.bus.attnLow then
      if Config.emptyPassLimit ≤ s1.sched.emptyPasses + 1 then s1.markAttnStuck
      else s1.setSched { s1.sched with emptyPasses := s1.sched.emptyPasses + 1 }
    else s1.setSched { s1.sched with emptyPasses := 0 }

/-- The pass ends if no address is left to visit (R101). -/
def State.passMayEnd (s : State) : State :=
  match s.sched.pass with
  | none => s
  | some p => if (s.passNext p.position).isNone then s.endPass else s

/-- Report the function that the pass's visit has just finished, if any (R100). -/
def State.reportPass (s : State) : State :=
  match s.sched.pass with
  | some p => match p.position with
    | .visiting v =>
      let d := s.reportFunction v
      d.1.setPass (.visiting d.2)
    | _ => s
  | none => s

/-- A grant with no pass present begins one, before address 1 (R99). -/
def State.beginPass (s : State) : State :=
  match s.sched.pass with
  | some _ => s
  | none => s.setSched { s.sched with pass := some { position := .after 0, foundFlag := false } }

/-- The ATTENTION rank is granted (R99 to R101). -/
def State.grantAttention (s : State) : State :=
  let s1 := s.beginPass.reportPass
  match s1.sched.pass with
  | none => s1
  | some p => match s1.passNext p.position with
    | some (v, what) => (s1.setPass (.visiting v)).issueVisit .attention v what
    | none => s1.endPass

/-! ## Link jobs (R103 to R108) -/

/-- Put the work of the running job in place. -/
def State.setRunning (s : State) (work : LinkWork) : State :=
  match s.sched.jobs with
  | j :: js => s.setSched { s.sched with jobs := { j with work := work } :: js }
  | [] => s

/-- The running job has a transaction ready (R88, R103). -/
def State.jobReady (s : State) : Bool :=
  s.mon.state == .monitoring &&
    match s.sched.jobs with
    | j :: _ => !j.abandoned && match j.work with
      | .fresh f => match f.stage with
        | .waiting _ => false
        | _ => true
      | .rescan _ _ => true
    | [] => false

/-- The check that a FRESH_READ makes before each transaction: the ending, or the channel's location
(R104). -/
def State.freshCheck (s : State) (f : FreshRead) : Except Status Location :=
  match (s.chan f.channel).binding with
  | none => .error .notBound
  | some b =>
    if (s.chan f.channel).generation != f.generation then .error .notBound
    else if (s.stn b.loc.station).state == .adopted
        && (s.stn b.loc.station).hasPoint b.loc.fn b.loc.point then .ok b.loc
    else .error .stationLost

/-- Issue the transaction of a FRESH_READ's stage (R105). -/
def State.issueFresh (s : State) (f : FreshRead) (loc : Location) : State :=
  match f.stage with
  | .convert => s.issueConvert .job loc.station loc.fn
  | .poll => s.issueStatus .job loc.station
  | .waiting _ => s
  | .replan => s.issuePlanWrite .job loc.station
  | .quality => s.issueQuality .job loc.station loc.fn
  | .reading =>
    s.issueReading .job loc.station loc.fn loc.point
      (some (s.readingTag f.channel loc.point f.quality f.fault))

/-- The JOB rank is granted (R104, R105, R108). -/
def State.grantJob (s : State) : State :=
  match s.sched.jobs with
  | j :: _ => match j.work with
    | .fresh f => match s.freshCheck f with
      | .error status => s.endLinkJob j status
      | .ok loc => s.issueFresh f loc
    | .rescan set w => match s.walkNext .job (setAddresses set) w with
      | some p =>
        let d := s.issueProbe .job p
        d.1.setRunning (.rescan set (ProbeWalk.at_ d.2))
      | none => s.endLinkJob j .ok
  | [] => s

/-! ## The SETUP rank and the guard work (R132 to R134, R140, R142) -/

/-- Start a recovery primitive (R89, R127, R128). A broadcast reset makes a start check first. -/
def State.startRelease (s : State) : State :=
  s.setBus { s.bus with primitive := some { kind := .release, discard := false } }

/-- The broadcast reset frame is sent and its settle begins (R128). -/
def State.sendBroadcast (s : State) (discard : Bool) : State :=
  s.setBus { s.bus with
    primitive := some { kind := .broadcastSettle, discard := discard }
    stuckReported := false
    lastFrame := broadcastFrame }

/-- Start a broadcast reset (R128). -/
def State.startBroadcast (s : State) : State :=
  if s.bus.datLow then
    s.setBus { s.bus with primitive := some { kind := .broadcastStartCheck, discard := false } }
  else s.sendBroadcast false

/-- The probe of address 1 in guard start-up has ended (R132). -/
def State.finishStartup (s : State) : State :=
  (s.setMon { s.mon with guardStage := some .watching }).pollAtOnce

/-- What the monitor controller's work at SETUP rank does next. -/
inductive SetupNext where
  | release
  | broadcast
  | startupProbe (p : Probe)
  | startupOver
  | enumerationProbe (p : Probe)
  | enumerationOver
  | recoveryProbe (p : Probe)
  | recoveryOver
  | nothing
  deriving DecidableEq, Repr

/-- The recovery stage's next step (R142). -/
def State.recoveryNext (s : State) : SetupNext :=
  match s.mon.recovery with
  | none => .nothing
  | some r => match r.stage with
    | .releaseRound => .release
    | .retryWait _ => .nothing
    | .broadcastReset => .broadcast
    | .probing w => match s.walkNext .recovery s.recoveryAddresses w with
      | some p => .recoveryProbe p
      | none => .recoveryOver

/-- The step that the monitor controller has ready (05, section 5.1, rank 0). -/
def State.setupNext (s : State) : SetupNext :=
  match s.mon.state with
  | .guarding => match s.mon.guardStage with
    | some (.startup false _) => .broadcast
    | some (.startup true p) => match s.walkNext .guardStartup [1] { last := 0, probe := p } with
      | some p => .startupProbe p
      | none => .startupOver
    | some .lineRecovery => s.recoveryNext
    | some .watching => .nothing
    | none => .nothing
  | .enumerating => match s.mon.enumeration with
    | some w => match s.walkNext .enumeration (setAddresses s.mon.params.stationMask) w with
      | some p => .enumerationProbe p
      | none => .enumerationOver
    | none => .nothing
  | .recovering => s.recoveryNext
  | .stopped => .nothing
  | .monitoring => .nothing

/-- Put the recovery's walk in place. -/
def State.setRecoveryWalk (s : State) (w : ProbeWalk) : State :=
  match s.mon.recovery with
  | some r => s.setRecovery (.probing w) r.reason
  | none => s

/-- The SETUP rank is granted. -/
def State.grantSetup (s : State) : SetupNext → State
  | .release => s.startRelease
  | .broadcast => s.startBroadcast
  | .startupProbe p =>
    let d := s.issueProbe .guardStartup p
    d.1.setMon { d.1.mon with guardStage := some (.startup true (some d.2)) }
  | .startupOver => s.finishStartup
  | .enumerationProbe p =>
    let d := s.issueProbe .enumeration p
    d.1.setMon { d.1.mon with enumeration := some (ProbeWalk.at_ d.2) }
  | .enumerationOver => s.finishEnumeration
  | .recoveryProbe p =>
    let d := s.issueProbe .recovery p
    d.1.setRecoveryWalk (ProbeWalk.at_ d.2)
  | .recoveryOver => s.finishRecovery
  | .nothing => s

/-- The guard poll has a transaction ready (R133). -/
def GuardPoll.ready (g : GuardPoll) : Bool :=
  match g.stage with
  | .waiting _ => false
  | _ => true

/-- Issue the transaction of the guard poll's stage, to station 1 (R133). -/
def State.issueGuardPoll (s : State) (g : GuardPoll) : State :=
  match g.stage with
  | .convert => s.issueConvert .guardPoll 1 0
  | .poll => s.issueStatus .guardPoll 1
  | .waiting _ => s
  | .replan => s.issuePlanWrite .guardPoll 1
  | .quality => s.issueQuality .guardPoll 1 0
  | .reading => s.issueReading .guardPoll 1 0 0 none

/-- The SWEEP rank in GUARD while watching: the guard poll, or the guard reprobe (R133, R134). -/
def State.grantGuard (s : State) : State :=
  match s.mon.guardPoll with
  | some g => s.issueGuardPoll g
  | none => match s.mon.guardReprobe with
    | some w => match s.walkNext .guardReprobe [1] w with
      | some p =>
        let d := s.issueProbe .guardReprobe p
        d.1.setMon { d.1.mon with guardReprobe := some (ProbeWalk.at_ d.2) }
      | none => s.setMon { s.mon with guardReprobe := none }
    | none => s

/-- One grant of the link arbiter: on an idle link, to the highest rank that has work ready (R89). -/
def State.grantLink (s : State) : State :=
  if !s.linkIdle then s
  else if s.setupNext != .nothing then s.grantSetup s.setupNext
  else if s.attentionHasWork then s.grantAttention
  else if s.jobReady then s.grantJob
  else if s.sched.sweep.isSome then s.grantSweep
  else if s.mon.state = .guarding ∧ s.mon.guardStage = some .watching then s.grantGuard
  else s

end Sys2Proof.Machine
end

