-- ==== Sys2Proof/Machine/Outcomes.lean ====
section
/-! DEFINITION. What the outcome of a transaction does: the Drop Bus counters, the roster's rules for
probe steps and counted transactions, the reading, and the advance of the activity
(R66 to R87, R91, R92, R96 to R98, R100, R101, R105, R106, R108, R117, R133). -/

namespace Sys2Proof.Machine

/-- The outcome of a transaction (R117). The data of a DONE WRITE is 0. -/
inductive TxnResult where
  | done (data : BitVec 16)
  | nak
  | missed
  deriving DecidableEq, Repr

/-! ## Changes of station state with their last steps (R65, R81) -/

/-- Collective silence is reported when the station has just become SILENT MISSED from ADOPTED and
no station is ADOPTED (R81). -/
def State.silenceMayResult (s : State) (before : StationState) (r : Station) : State :=
  if before = .adopted ∧ r.state = .silent ∧ r.reason = some .missed ∧ !s.anyAdopted then
    s.collectiveSilence
  else s

/-- A station's record becomes `r` by an outcome, and a change of its state is handed on in full
(R65). -/
def State.changeStation (s : State) (a : Nat) (r : Station) : State :=
  let before := (s.stn a).state
  let s1 := s.moveStation a r
  let s2 := if before = .adopted ∧ r.state ≠ .adopted then s1.stationLost a else s1
  s2.silenceMayResult before r

/-! ## Last heard and failed transactions (R66) -/

/-- The two fields that every outcome updates. -/
def Station.hear (r : Station) (now : Time) : TxnResult → Station
  | .done _ => { r with lastHeard := some now }
  | .nak => { r with lastHeard := some now,
                     failed := if r.failed = BitVec.allOnes 16 then r.failed else r.failed + 1 }
  | .missed => { r with failed := if r.failed = BitVec.allOnes 16 then r.failed else r.failed + 1 }

/-! ## Probe steps (R68 to R72) -/

/-- A class that is adopted (R68). -/
def classKnown (c : Byte) : Bool := 1 ≤ c.toNat && c.toNat ≤ 5

/-- Function count and points per function in their ranges (R69). -/
def Shape.wellFormed (sh : Shape) : Bool :=
  1 ≤ sh.fns.toNat && sh.fns.toNat ≤ 4 && 1 ≤ sh.pts.toNat && sh.pts.toNat ≤ 8

/-- A fingerprint is present and differs from the identity as last read (R69). -/
def Station.identityChanged (r : Station) : Bool :=
  match r.fingerprint with
  | some fp => r.identity != some fp
  | none => false

/-- The record of a station whose probe draws MISSED at step 1 (R68). -/
def Station.missedFirst (r : Station) (reprobeAt : Time) : Station :=
  if r.state = .silent then { r with reprobeAt := some reprobeAt } else r.toAbsent

/-- The record of a station whose probe draws MISSED at step 2, 3 or 4 (R72). -/
def Station.missedLater (r : Station) (reprobeAt : Time) : Station :=
  match r.state with
  | .adopted => r.toSilent .missed reprobeAt
  | .silent => r
  | .unknown | .absent | .rejected => r.toAbsent

/-- Step 1 ended DONE with the data of ID0 (R68). -/
def State.probeId0 (s : State) (a : Nat) (d : BitVec 16) : State :=
  let r := { s.stn a with classRev := some (decodeId0 d) }
  if classKnown (decodeId0 d).cls then s.setStn a r
  else s.changeStation a (r.toRejected .unsupported).endProbe

/-- Step 2 ended DONE with the data of ID1 (R69). -/
def State.probeId1 (s : State) (a : Nat) (d : BitVec 16) : State :=
  let r := { s.stn a with shape := some (decodeId1 d) }
  if !(decodeId1 d).wellFormed then s.changeStation a (r.toRejected .malformed).endProbe
  else if r.identityChanged then s.changeStation a (r.toRejected .changed).endProbe
  else s.setStn a r

/-- Step 4 ended DONE with the data of STATUS: the station is adopted, then FAULT and RESET_DONE are
acted on (R71). -/
def State.probeAdopts (s : State) (a : Nat) (written : Plan) (d : BitVec 16) : State :=
  let s1 := s.changeStation a ((s.stn a).toAdopted.applied written).endProbe
  let s2 := if statusFault d then s1.note a .stationFault else s1
  if statusResetDone d then s2.setStn a { s2.stn a with planApplied := false } else s2

/-- The outcome of a probe step is applied to the station (R68 to R72). -/
def State.probeOutcome (s : State) (a : Nat) (step : ProbeStep) (written : Plan) :
    TxnResult → State
  | .nak => s.changeStation a ((s.stn a).toRejected .protocol).endProbe
  | .missed =>
    match step with
    | .id0 => s.changeStation a ((s.stn a).missedFirst s.reprobeTime).endProbe
    | .id1 | .control | .status => s.changeStation a ((s.stn a).missedLater s.reprobeTime).endProbe
  | .done d =>
    match step with
    | .id0 => s.probeId0 a d
    | .id1 => s.probeId1 a d
    | .control => s
    | .status => s.probeAdopts a written d

/-! ## Counted transactions (R77, R78, R84 to R87) -/

/-- The running FRESH_READ's station has shown the flag of its function in a STATUS read made after
its convert-now was acknowledged (R105). -/
def State.noteFlags (s : State) (a : Nat) (flags : BitVec 4) : State :=
  match s.sched.jobs with
  | j :: _ => match j.work with
    | .fresh f => match (s.chan f.channel).binding with
      | some b =>
        if f.acked && b.loc.station == a && flags.getLsbD b.loc.fn then
          s.setRunning (.fresh { f with flagSeen := true })
        else s
      | none => s
    | .rescan _ _ => s
  | [] => s

/-- The attention flags of a STATUS read become owed; a flag already owed is raised again (R85). -/
def Station.flagsRead (r : Station) (flags : BitVec 4) : Station :=
  { r with raisedAgain := r.raisedAgain ||| (flags &&& r.owed), owed := r.owed ||| flags }

/-- What a STATUS read of an ADOPTED station tells the roster (R85 to R87). -/
def State.statusNews (s : State) (a : Nat) (d : BitVec 16) : State :=
  let s1 := (s.setStn a ((s.stn a).flagsRead (statusFlags d))).noteFlags a (statusFlags d)
  let s2 :=
    if statusResetDone d then
      (s1.setStn a { s1.stn a with planApplied := false }).note a .restarted
    else s1
  if statusFault d then s2.note a .stationFault else s2

/-- The outcome of a transaction that is not a probe step, to an ADOPTED station (R77, R78, R84). -/
def State.countedOutcome (s : State) (a : Nat) (p : Purpose) : TxnResult → State
  | .missed =>
    let r := s.stn a
    if Config.missLimit ≤ r.missCount + 1 then s.changeStation a (r.toSilent .missed s.reprobeTime)
    else s.setStn a { r with missCount := r.missCount + 1 }
  | .nak => s.changeStation a { (s.stn a).toRejected .protocol with missCount := 0 }
  | .done d =>
    let s1 := s.setStn a { s.stn a with missCount := 0 }
    match p with
    | .planWrite plan => s1.setStn a ((s1.stn a).applied plan)
    | .statusRead => s1.statusNews a d
    | .convertWrite => s1
    | .qualityRead _ => s1
    | .readingRead _ _ _ => s1
    | .probeStep _ _ => s1

/-- The roster's step of an outcome (R91, first step). A probe step whose probe has been abandoned
is applied no further than R66 (R73). -/
def State.rosterOutcome (s : State) (t : Transaction) (r : TxnResult) : State :=
  match t.purpose with
  | .probeStep step written =>
    if t.orphan || !s.holds t.activity t.address then s
    else s.probeOutcome t.address step written r
  | p => if (s.stn t.address).state = .adopted then s.countedOutcome t.address p r else s

/-! ## The reading (R91, second step; R106) -/

/-- The running FRESH_READ that a reading taken for the channel completes (R106). -/
def State.freshWaitingFor (s : State) (tag : ReadingTag) : Option LinkJob :=
  match s.sched.jobs with
  | j :: _ => match j.work with
    | .fresh f =>
      if f.acked && !j.abandoned && f.channel == tag.channel && f.generation == tag.generation
        then some j else none
    | .rescan _ _ => none
  | [] => none

/-- The FRESH_READ completes OK with what its channel now holds (R106, R154). -/
def State.freshCompletes (s : State) (j : LinkJob) (n : Nat) : State :=
  let s1 := (s.cutLinkJob j).dequeue j.order
  match s1.job j.order with
  | some slot => s1.endJob j.order ((slot.completion .ok).withChannel (s1.chan n))
  | none => s1

/-- A DONE READING read is handed to the condition unit when the QUALITY read of its function at the
same visit ended DONE (R91), and a reading taken completes the FRESH_READ that waits for it. -/
def State.readingOutcome (s : State) (t : Transaction) (r : TxnResult) : State :=
  match t.purpose, r with
  | .readingRead _ _ (some tag), .done d =>
    match tag.quality with
    | some q =>
      let s1 := s.reading tag.channel tag.generation d q tag.fault
      if s.takes tag.channel tag.generation then
        match s1.freshWaitingFor tag with
        | some j => s1.freshCompletes j tag.channel
        | none => s1
      else s1
    | none => s
  | _, _ => s

/-! ## The activity advances (R91, third step) -/

/-- The transaction ended DONE. -/
def TxnResult.isDone : TxnResult → Bool
  | .done _ => true
  | .nak | .missed => false

/-- A visit after the outcome of its transaction (R96, R97, R100). -/
def Visit.advance (v : Visit) (p : Purpose) (r : TxnResult) : Visit :=
  match p with
  | .planWrite _ => { v with stage := if v.stage = .replan then .functions else .status }
  | .statusRead =>
    match r with
    | .done d =>
      { v with stage := if statusResetDone d then .replan else .functions, fault := statusFault d }
    | .nak | .missed => { v with stage := .functions, fault := false }
  | .qualityRead f =>
    match r with
    | .done d =>
      { v with stage := .inFunction f none, quality := some d, allDone := true, reported := false }
    | .nak | .missed =>
      { v with stage := .inFunction f none, quality := none, allDone := false, reported := false }
  | .readingRead f point _ =>
    { v with stage := .inFunction f (some point), allDone := v.allDone && r.isDone }
  | .convertWrite => v
  | .probeStep _ _ => v

/-- The STATUS read showed an attention flag. -/
def showedFlag (p : Purpose) (r : TxnResult) : Bool :=
  match p, r with
  | .statusRead, .done d => statusFlags d != 0
  | _, _ => false

/-- The walk past a transaction of its activity: a probe goes on to its next step (R67). -/
def State.walkPast (s : State) (act : Activity) (t : Transaction) : ProbeWalk :=
  match t.purpose with
  | .probeStep step written => s.walkAfter act t.address step written
  | _ => { last := t.address, probe := none }

/-- The routine sweep advances (R95 to R98). -/
def State.advanceSweep (s : State) (t : Transaction) (r : TxnResult) : State :=
  match s.sched.sweep with
  | none => s
  | some w => match w.position with
    | .visiting v => ((s.setSweep (.visiting (v.advance t.purpose r))).reportSweep).sweepMayEnd
    | .probing _ =>
      match (s.walkPast .sweep t).probe with
      | some p => s.setSweep (.probing p)
      | none => (s.setSweep (.reprobesAfter t.address)).sweepMayEnd
    | .after _ => s.sweepMayEnd
    | .reprobesAfter _ => s.sweepMayEnd

/-- The attention pass advances (R100, R101). -/
def State.advancePass (s : State) (t : Transaction) (r : TxnResult) : State :=
  match s.sched.pass with
  | none => s
  | some p =>
    let s1 := s.setSched { s.sched with
      pass := some { p with foundFlag := p.foundFlag || showedFlag t.purpose r } }
    match p.position with
    | .visiting v => ((s1.setPass (.visiting (v.advance t.purpose r))).reportPass).passMayEnd
    | .after _ => s1.passMayEnd

/-- A FRESH_READ after the outcome of its transaction (R105). A poll that shows RESET_DONE has lost
the convert-now (log entry 13). -/
def FreshRead.advance (f : FreshRead) (now : Time) (r : TxnResult) : FreshRead :=
  match f.stage with
  | .convert =>
    match r with
    | .done _ => { f with acked := true, flagSeen := false, stage := .poll }
    | .nak | .missed => f
  | .poll =>
    match r with
    | .done d =>
      if statusResetDone d then { f with stage := .replan, acked := false, flagSeen := false }
      else if f.flagSeen then { f with stage := .quality, fault := statusFault d }
      else { f with stage := .waiting now }
    | .nak | .missed => { f with stage := .waiting now, fault := false }
  | .waiting _ => f
  | .replan => { f with stage := .convert }
  | .quality =>
    match r with
    | .done d => { f with stage := .reading, quality := some d }
    | .nak | .missed => f
  | .reading => { f with stage := .quality }

/-- A walk over addresses after a step of its probe, and whether its last address has been probed. -/
def State.walkStep (s : State) (act : Activity) (as : List Nat) (t : Transaction) :
    ProbeWalk × Bool :=
  let w := s.walkPast act t
  (w, (s.walkNext act as w).isNone)

/-- The running link job advances (R105, R108). An abandoned job does not (R165). -/
def State.advanceJob (s : State) (t : Transaction) (r : TxnResult) : State :=
  match s.sched.jobs with
  | [] => s
  | j :: _ =>
    if j.abandoned then s
    else match j.work with
      | .fresh f => s.setRunning (.fresh (f.advance s.now r))
      | .rescan set _ =>
        let step := s.walkStep .job (setAddresses set) t
        if step.2 then s.endLinkJob { j with work := .rescan set step.1 } .ok
        else s.setRunning (.rescan set step.1)

/-- Put the guard poll in place. -/
def State.setGuardPoll (s : State) (g : Option GuardPoll) : State :=
  s.setMon { s.mon with guardPoll := g }

/-- The guard poll advances; a MISSED ends it without a reading (R133). -/
def State.advanceGuardPoll (s : State) (r : TxnResult) : State :=
  match s.mon.guardPoll with
  | none => s
  | some g =>
    match r with
    | .nak | .missed => s.setGuardPoll none
    | .done d =>
      match g.stage with
      | .convert => s.setGuardPoll (some { g with stage := .poll })
      | .poll =>
        if statusResetDone d then s.setGuardPoll (some { g with stage := .replan })
        else if (statusFlags d).getLsbD 0 then
          s.setGuardPoll (some { g with stage := .quality, fault := statusFault d })
        else s.setGuardPoll (some { g with stage := .waiting s.now })
      | .waiting _ => s
      | .replan => s.setGuardPoll (some { g with stage := .convert })
      | .quality => s.setGuardPoll (some { g with stage := .reading, quality := d })
      | .reading =>
        (s.guardReading d (qualityOf g.quality 0 == .valid && !g.fault)).setGuardPoll none

/-- The guard start-up probe advances (R132). -/
def State.advanceStartup (s : State) (t : Transaction) : State :=
  match s.mon.guardStage with
  | some (.startup _ _) =>
    let step := s.walkStep .guardStartup [1] t
    if step.2 then s.finishStartup
    else s.setMon { s.mon with guardStage := some (.startup true step.1.probe) }
  | some .watching => s
  | some .lineRecovery => s
  | none => s

/-- The guard reprobe of station 1 advances (R134). -/
def State.advanceGuardReprobe (s : State) (t : Transaction) : State :=
  match s.mon.guardReprobe with
  | some _ =>
    let step := s.walkStep .guardReprobe [1] t
    if step.2 then (s.setMon { s.mon with guardReprobe := none }).pollAtOnce
    else s.setMon { s.mon with guardReprobe := some step.1 }
  | none => s

/-- The enumeration advances (R140). -/
def State.advanceEnumeration (s : State) (t : Transaction) : State :=
  match s.mon.enumeration with
  | some _ =>
    let step := s.walkStep .enumeration (setAddresses s.mon.params.stationMask) t
    if step.2 then s.finishEnumeration else s.setMon { s.mon with enumeration := some step.1 }
  | none => s

/-- The probing stage of a recovery advances (R142, R143, R135). -/
def State.advanceRecovery (s : State) (t : Transaction) : State :=
  match s.mon.recovery with
  | some _ =>
    let step := s.walkStep .recovery s.recoveryAddresses t
    if step.2 then s.finishRecovery else s.setRecoveryWalk step.1
  | none => s

/-- The activity that made the transaction advances its position (R91). -/
def State.advance (s : State) (t : Transaction) (r : TxnResult) : State :=
  match t.activity with
  | .guardStartup => s.advanceStartup t
  | .enumeration => s.advanceEnumeration t
  | .recovery => s.advanceRecovery t
  | .attention => s.advancePass t r
  | .job => s.advanceJob t r
  | .sweep => s.advanceSweep t r
  | .guardPoll => s.advanceGuardPoll r
  | .guardReprobe => s.advanceGuardReprobe t

/-! ## The end of a transaction (R117) -/

/-- The three counters at the end of a transaction (R117). -/
def State.countTransaction (s : State) (t : Transaction) (r : TxnResult) : State :=
  s.setBus { s.bus with
    transactions := s.bus.transactions + 1
    retries := if t.second then s.bus.retries + 1 else s.bus.retries
    missed := if r = .missed then s.bus.missed + 1 else s.bus.missed }

/-- The link is idle again. The line monitor sees DB_DAT high if it is (R126). -/
def State.freeLink (s : State) : State :=
  s.setBus { s.bus with
    txn := none
    stuckReported := s.bus.stuckReported && s.bus.datLow }

/-- The transaction on the bus has been orphaned (R92). -/
def State.orphaned (s : State) : Bool :=
  match s.bus.txn with
  | some t => t.orphan
  | none => true

/-- The transaction ends with an outcome, which is routed (R91, R117). -/
def State.endTransaction (s : State) (t : Transaction) (r : TxnResult) : State :=
  let s1 := s.countTransaction t r
  let s2 := s1.setStn t.address ((s1.stn t.address).hear s1.now r)
  let s3 := (s2.rosterOutcome t r).readingOutcome t r
  let s4 := if s3.orphaned then s3 else s3.advance t r
  let s5 := if t.activity = .job then s4.leaveIfAbandoned else s4
  s5.freeLink

/-- An attempt judged NO_REPLY or CORRUPT: the second attempt begins, or the transaction ends MISSED
(R117). -/
def State.attemptFails (s : State) (t : Transaction) : State :=
  if t.second then s.endTransaction t .missed else s.startAttempt { t with second := true }

/-- The attempt is judged (R115, R117). -/
def State.attemptJudged (s : State) (t : Transaction) : Judgement → State
  | .goodAck d => s.endTransaction t (.done d)
  | .goodNak => s.endTransaction t .nak
  | .corrupt => s.attemptFails t

end Sys2Proof.Machine
end

