-- ==== Sys2Proof/Machine/LinkCommands.lean ====
section
/-! DEFINITION. The meanings of the Drop Bus commands (R89, R102, R112, R115 to R118, R126 to R128). -/

namespace Sys2Proof.Machine

/-- LINK_GRANT (R89). -/
def execLinkGrant (s : State) : Out := .next s.grantLink

/-- The transaction whose response window is open. -/
def State.awaiting (s : State) : Option Transaction :=
  match s.bus.txn with
  | some t => if t.phase = .awaiting then some t else none
  | none => none

/-- RESPONSE_RECEIVED: the attempt is judged (R115, R117). -/
def execResponseReceived (bits : List Bool) (s : State) : Out :=
  match s.awaiting with
  | some t => .next (s.attemptJudged t (judgeResponse t.data.isNone bits))
  | none => .next s

/-- RESPONSE_WINDOW_EXPIRY: the attempt is NO_REPLY (R116, R117). -/
def execResponseWindowExpiry (s : State) : Out :=
  match s.awaiting with
  | some t => .next (s.attemptFails t)
  | none => .next s

/-- End the transaction on the bus with MISSED (R118). -/
def State.endMissed (s : State) : State :=
  match s.bus.txn with
  | some t => s.endTransaction t .missed
  | none => s

/-- The start check of a transaction fails. R92 leaves open which of the LINE_STUCK report and the
outcome is taken first (log entry 10). -/
def State.startCheckFails (s : State) (outcomeFirst : Bool) : State :=
  if outcomeFirst then s.endMissed.reportStuck else s.reportStuck.endMissed

/-- The primitive's report will be discarded. -/
def State.primitiveDiscarded (s : State) : Bool :=
  match s.bus.primitive with
  | some p => p.discard
  | none => true

/-- The primitive has ended; the link is idle. -/
def State.endPrimitive (s : State) : State :=
  s.setBus { s.bus with primitive := none, stuckReported := s.bus.stuckReported && s.bus.datLow }

/-- The start check of a broadcast reset fails: LINE_STUCK, then the report that it was not sent
(R128). -/
def State.broadcastCheckFails (s : State) : State :=
  let s1 := s.reportStuck
  let s2 := s1.endPrimitive
  if s1.primitiveDiscarded then s2 else s2.broadcastNotSent

/-- START_CHECK_TIMEOUT (R118, R128). -/
def execStartCheckTimeout (outcomeFirst : Bool) (s : State) : Out :=
  if !s.bus.datLow then .next s
  else match s.bus.txn with
    | some t => if t.phase = .startCheck then .next (s.startCheckFails outcomeFirst) else .next s
    | none => match s.bus.primitive with
      | some p =>
        if p.kind = .broadcastStartCheck then .next s.broadcastCheckFails else .next s
      | none => .next s

/-- LINE_MONITOR_STUCK: DB_DAT has been low for 5 ms on an idle link (R126). -/
def execLineMonitorStuck (s : State) : Out :=
  if s.linkIdle ∧ s.bus.datLow then .next s.reportStuck else .next s

/-- The effect of DB_DAT seen high, on what waits for it (R116, R126, R128). -/
def State.datSeenHigh (s : State) : State :=
  match s.bus.txn with
  | some t => if t.phase = .startCheck then s.sendFrame t else s
  | none => match s.bus.primitive with
    | some p => if p.kind = .broadcastStartCheck then s.sendBroadcast p.discard else s
    | none => s.setBus { s.bus with stuckReported := false }

/-- DB_DAT_RELEASED (R116, R126). -/
def execDbDatReleased (s : State) : Out :=
  .next (s.setBus { s.bus with datLow := false }).datSeenHigh

/-- DB_DAT_LOW (R126). -/
def execDbDatLow (s : State) : Out := .next (s.setBus { s.bus with datLow := true })

/-- DB_ATTN_ASSERTED (R112). -/
def execDbAttnAsserted (s : State) : Out := .next (s.setBus { s.bus with attnLow := true })

/-- The release of DB_ATTN reaches the link scheduler (R101, R102). -/
def State.attnSeenReleased (s : State) : State :=
  if s.sched.attnStuck then
    (s.setSched { s.sched with attnStuck := false }).setAttnPart false
  else s.setSched { s.sched with emptyPasses := 0 }

/-- DB_ATTN_RELEASED (R102, R112). -/
def execDbAttnReleased (s : State) : Out :=
  if s.bus.attnLow then .next (s.setBus { s.bus with attnLow := false }).attnSeenReleased
  else .next s

/-- RELEASE_SEQUENCE_END: DB_DAT is sampled and the result is reported (R127, R142). -/
def execReleaseSequenceEnd (s : State) : Out :=
  match s.bus.primitive with
  | some p =>
    if p.kind = .release then
      let s1 := s.endPrimitive
      .next (if p.discard then s1 else s1.releaseReport (!s.bus.datLow))
    else .next s
  | none => .next s

/-- BROADCAST_RESET_SETTLE_END (R128, R132, R142). -/
def execBroadcastResetSettleEnd (s : State) : Out :=
  match s.bus.primitive with
  | some p =>
    if p.kind = .broadcastSettle then
      let s1 := s.endPrimitive
      .next (if p.discard then s1 else s1.broadcastSent)
    else .next s
  | none => .next s

end Sys2Proof.Machine
end

