-- ==== Sys2Proof/WellFormed.lean ====
section
/-! DEFINITION. Which operands a command may carry: what makes its row the right row for the
register write or the response it stands for. -/

namespace Sys2Proof

/-- The bit of CONTROL that holds ENABLE (10_record_and_frame_layouts.md, 10.7). -/
def controlEnableBit : Nat := 0
/-- The bit of CONTROL that holds RESET (10.7). -/
def controlResetBit : Nat := 1

/-- A full-width write of STATUS (offset 0x04) or FAULT (0x1C), or a write narrower than 32 bits (R181). -/
def ignoredWrite (offset width : Nat) : Bool :=
  offset < 32 && ((width == 4 && (offset == 0x04 || offset == 0x1C)) || (1 ≤ width && width < 4))

/-- The operands fit the row. The longest response, to a READ, has 28 bits (R115, 10.8). -/
def Instr.wellFormed : Instr → Bool
  | .controlReset value => value.getLsbD controlResetBit
  | .enableSet value => value.getLsbD controlEnableBit && !value.getLsbD controlResetBit
  | .enableClear value => !value.getLsbD controlEnableBit && !value.getLsbD controlResetBit
  | .interruptEnablesWrite value => !value.getLsbD controlResetBit
  | .registerWriteIgnored offset width _ => ignoredWrite offset width
  | .responseReceived bits => bits.length ≤ 28
  | .powerOnReset => true
  | .pcieReset => true
  | .intCauseWrite _ => true
  | .setupWrite _ => true
  | .reqTailWrite _ => true
  | .cplHeadWrite _ => true
  | .evtHeadWrite _ => true
  | .setupReadDone _ => true
  | .memoryGrant => true
  | .requestFetchDone _ => true
  | .completionWriteDone => true
  | .eventWriteDone => true
  | .dumpWriteDone => true
  | .dumpWriteBusError => true
  | .ringBusError => true
  | .drainingExit => true
  | .nop => true
  | .sync => true
  | .configure => true
  | .start => true
  | .stop => true
  | .defineChannel => true
  | .retireChannel => true
  | .setLimits => true
  | .readChannel => true
  | .freshRead => true
  | .rescan => true
  | .acceptStation => true
  | .dump => true
  | .rearmTrip => true
  | .forceTrip => true
  | .unknownKind => true
  | .monitorTimeTick => true
  | .freshnessStep => true
  | .tripGraceExpiry => true
  | .eventModerationDelay => true
  | .completionModerationDelay => true
  | .sweepTimerFiring => true
  | .freshReadTimeout => true
  | .pollWaitExpiry => true
  | .guardPollDue => true
  | .guardPollWaitExpiry => true
  | .guardPollTimeout => true
  | .guardReprobeDue => true
  | .recoveryRetryWaitExpiry => true
  | .linkGrant => true
  | .responseWindowExpiry => true
  | .startCheckTimeout _ => true
  | .lineMonitorStuck => true
  | .dbDatReleased => true
  | .dbAttnAsserted => true
  | .dbAttnReleased => true
  | .releaseSequenceEnd => true
  | .broadcastResetSettleEnd => true
  | .dbDatLow => true
  | .portConfigurationWrite _ _ => true
  | .pcieLinkDown => true
  | .pcieLinkUp => true

end Sys2Proof
end

