-- ==== Sys2Proof/Machine/Interface.lean ====
section
/-! DEFINITION. The interface states, the memory arbiter, bus errors, and the views that the host has
of the register window (09_rings_windows_and_the_register_port.md). -/

namespace Sys2Proof.Machine

/-- Put the ring engine in place. -/
def State.setRing (s : State) (r : RingEngine) : State := { s with ring := r }

/-- Put the request engine in place. -/
def State.setReq (s : State) (r : RequestEngine) : State := { s with req := r }

/-- Put the access in flight in place. -/
def State.setFlight (s : State) (a : Option Access) : State :=
  { s with mem := { s.mem with inFlight := a } }

/-- Put the interface in a state. -/
def State.setIface (s : State) (i : InterfaceState) : State := s.setRing { s.ring with iface := i }

/-! ## Entering LOADING and LIVE (R168, R171) -/

/-- The interface enters LOADING: FAULT shows no fault, and the 128 bytes of the setup block are read
at the address in SETUP as a single access (R168). -/
def State.enterLoading (s : State) : State :=
  let s1 := { s with port := { s.port with fault := FaultRegister.none } }
  (s1.setIface .loading).setFlight
    (some { kind := .setupRead, address := s1.port.setup.setWidth 64, length := 128, bytes := [],
            sendable := s1.pcie.canWrite })

/-- The interface enters LIVE: positions, host indices, lap values and moderation counters are
reset, taken-not-completed is 0, and the backlog is drained into the empty event ring (R171). -/
def State.enterLive (s : State) : State :=
  let s1 := s.setRing { s.ring with
    iface := .live, requestHead := 0, completionTail := 0, eventTail := 0, requestTail := 0
    completionHead := 0, eventHead := 0, completionLap := true, eventLap := true
    completionMod := Moderation.idle, eventMod := Moderation.idle }
  (s1.setReq { s1.req with taken := 0 }).drain

/-- The ring description and the four windows are loaded from the setup block (R170). -/
def State.loadSetup (s : State) (b : SetupBlock) : State :=
  let s1 := s.setRing { s.ring with desc := some (SetupBlock.description b) }
  { s1 with mem := { s1.mem with windows := SetupBlock.windows b } }

/-! ## HALTED (R165, R173) -/

/-- Write the FAULT register. -/
def State.setFault (s : State) (f : FaultRegister) : State :=
  { s with port := { s.port with fault := f } }

/-- The interface enters HALTED with the failure in the FAULT register, and FAULT is raised (R170,
R173). -/
def State.enterHalted (s : State) (f : FaultRegister) : State :=
  ((s.setFault f).setIface .halted).raise Causes.faultOnly

/-- The job's own transaction is on the bus, so that its boundary is the end of that transaction
(R103, R165). -/
def State.onBus (s : State) (j : LinkJob) : Bool :=
  s.sched.isRunning j.order &&
    match s.bus.txn with
    | some t => t.activity == .job && !t.orphan
    | none => false

/-- The job stays, abandoned, until its boundary. -/
def State.staysAbandoned (s : State) (j : LinkJob) : Bool := j.abandoned || s.onBus j

/-- The probes of the link jobs that leave at once are abandoned (R73). -/
def State.dropProbesOf (s : State) (js : List LinkJob) : State :=
  js.foldl (fun t j => match j.work with
    | .rescan _ w => t.dropWalk .job w
    | .fresh _ => t) s

/-- Every job is abandoned, and taken-not-completed is lowered by one for each (R165). One access is
in flight at a time, so no dump write is in progress at a ring's bus error: a dump and a SYNC leave
their slots at once, a link job at the end of its transaction. -/
def State.abandonJobs (s : State) : State :=
  let kept := (s.sched.jobs.filter s.staysAbandoned).map fun j => { j with abandoned := true }
  let orders := kept.map LinkJob.order
  let lowered := (s.req.jobs.filter fun j => !j.abandoned).length
  let s1 := s.dropProbesOf (s.sched.jobs.filter fun j => !s.staysAbandoned j)
  let s2 := s1.setSched { s1.sched with jobs := kept }
  s2.setReq { s2.req with
    staged := none
    jobs := (s2.req.jobs.filter fun j => orders.contains j.order).map
      fun j => { j with abandoned := true }
    taken := s2.req.taken - lowered
    capture := []
    dumpQueue := [] }

/-- The access in flight writes an event record. -/
def State.eventInFlight (s : State) : Bool :=
  match s.mem.inFlight with
  | some a => match a.kind with
    | .eventWrite _ _ => true
    | _ => false
  | none => false

/-- The event records that a halt loses: those claimed whose writes have not been made (R41). -/
def State.lostEvents (s : State) : Nat :=
  s.ring.eventWrites.length + (if s.eventInFlight then 1 else 0)

/-- A ring access failed: the interface enters HALTED (R173, its five steps). -/
def State.haltRings (s : State) (ring : RingStructure) (index : Nat) : State :=
  let lost := s.lostEvents
  let s1 := { s with evt := { s.evt with
    discarded := s.evt.discarded + BitVec.ofNat 32 lost } }
  let s2 := (s1.setRing { s1.ring with
    completionWrites := [], eventWrites := []
    completionMod := Moderation.idle, eventMod := Moderation.idle }).setFlight none
  s2.abandonJobs.enterHalted { code := .ringBusError, struct := ring, index := index }

/-! ## The end of DRAINING (R46, R172) -/

/-- A ring's record is being written or fetched. -/
def State.ringAccessInFlight (s : State) : Bool :=
  match s.mem.inFlight with
  | some a => match a.kind with
    | .completionWrite _ | .eventWrite _ _ | .requestFetch _ _ => true
    | .setupRead | .dumpWrite _ => false
  | none => false

/-- The test of R172: no slot is occupied, every claimed record has been written, and no request
fetch is in flight. -/
def State.drained (s : State) : Bool :=
  s.req.jobs.isEmpty && s.ring.completionWrites.isEmpty && s.ring.eventWrites.isEmpty
    && !s.ringAccessInFlight

/-- EVENT or COMPLETION is raised for a moderation counter above 0 (R46). -/
def State.raiseCounted (s : State) : State :=
  let s1 := if 0 < s.ring.eventMod.count then s.raiseEvent else s
  if 0 < s1.ring.completionMod.count then s1.raiseCompletion else s1

/-- The interface leaves DRAINING for OFF, or for LOADING if ENABLE is set (R172). -/
def State.leaveDraining (s : State) : State :=
  let s1 := s.raiseCounted
  if s1.port.enable then s1.enterLoading else s1.setIface .off

/-- The interface leaves DRAINING if the test holds (R172). -/
def State.mayLeaveDraining (s : State) : State :=
  if s.ring.iface = .draining ∧ s.drained then s.leaveDraining else s

/-! ## Discarding the staged request (R146) -/

/-- The record of a fetch in flight will be discarded when its read ends. -/
def Access.discarded (a : Access) : Access :=
  match a.kind with
  | .requestFetch slot _ => { a with kind := .requestFetch slot true }
  | _ => a

/-- The staged request is discarded, and so will be the record of a fetch in flight (R146). -/
def State.discardStaged (s : State) : State :=
  let s1 := s.setReq { s.req with staged := none }
  s1.setFlight (s1.mem.inFlight.map Access.discarded)

/-! ## CONTROL (R174, R182, R185) -/

/-- A controller reset: every block takes its power-on values, but for the trip latch with its cause
record and rearm time, and monitor time (R185). The wires, the PCIe port and the waiting commands are
not part of any block's registers. -/
def State.controllerReset (s : State) : State :=
  { State.reset with
    pending := s.pending
    trip := { TripUnit.reset with
      latch := s.trip.latch, cause := s.trip.cause, rearmTime := s.trip.rearmTime }
    mon := { Monitor.reset with time := s.mon.time }
    bus := { DropBus.reset with datLow := s.bus.datLow, attnLow := s.bus.attnLow }
    pcie := s.pcie }

/-- What a CONTROL write with ENABLE set does to the interface (R174). -/
def State.enableWritten (s : State) : State :=
  match s.ring.iface with
  | .off => s.enterLoading
  | .loading | .live | .draining | .halted => s

/-- What a CONTROL write with ENABLE clear does to the interface (R174). -/
def State.disableWritten (s : State) : State :=
  match s.ring.iface with
  | .live => ((s.setIface .draining).discardStaged).mayLeaveDraining
  | .halted => s.setIface .off
  | .off | .loading | .draining => s

/-- A write of CONTROL: with RESET set a controller reset, else the interrupt enables and ENABLE are
replaced and the interface acts by R174 (R182). -/
def State.controlWrite (s : State) (w : BitVec 32) : State :=
  if w.getLsbD controlResetBit then s.controllerReset
  else
    let enable := w.getLsbD controlEnableBit
    let s1 := s.setPort { s.port with enable := enable, intEnable := Causes.ofBits w 8 }
    if enable then s1.enableWritten else s1.disableWritten

/-! ## The memory arbiter (R178, R179) -/

/-- The base addresses of the loaded description, 0 with none loaded. -/
def RingEngine.bases (r : RingEngine) : BitVec 64 × BitVec 64 × BitVec 64 :=
  match r.desc with
  | some d => (d.requestBase, d.completionBase, d.eventBase)
  | none => (0, 0, 0)

/-- The address of a slot: the ring base plus the slot number times the record size (10). -/
def slotAddress (base : BitVec 64) (slot size : Nat) : BitVec 64 :=
  base + BitVec.ofNat 64 (slot * size)

/-- A request fetch is placed (R146). -/
def State.fetchPlaced (s : State) : Bool :=
  s.ring.iface == .live && s.ring.requestTail != s.ring.requestHead && s.req.staged.isNone

/-- The write of a claimed completion record. -/
def State.completionAccess (s : State) (c : CompletionWrite) : Access :=
  { kind := .completionWrite c.slot
    address := slotAddress s.ring.bases.2.1 c.slot recordSize
    length := recordSize, bytes := c.record.bytes c.lap, sendable := s.pcie.canWrite }

/-- The write of a claimed event record. -/
def State.eventAccess (s : State) (e : EventWrite) : Access :=
  { kind := .eventWrite e.slot e.record.urgent
    address := slotAddress s.ring.bases.2.2 e.slot recordSize
    length := recordSize, bytes := e.record.bytes e.lap, sendable := s.pcie.canWrite }

/-- The read of the request record at the request head. -/
def State.fetchAccess (s : State) : Access :=
  { kind := .requestFetch s.ring.requestHead false
    address := slotAddress s.ring.bases.1 s.ring.requestHead requestSize
    length := requestSize, bytes := [], sendable := s.pcie.canWrite }

/-- The next record of a dump: a LATEST record from its table now, a captured one from the capture
area (R159, R160). -/
def State.dumpRecord (s : State) (d : DumpJob) : List Byte :=
  match d.subject with
  | .channels =>
    Channel.dumpBytes (d.first + d.written)
      (if d.nextSweep then s.req.capture[d.written]?.getD Channel.reset
       else s.chan (d.first + d.written))
  | .stations => Station.dumpBytes (d.written + 1) (s.stn (d.written + 1))
  | .summary => s.summaryBytes

/-- The write of a dump's next record, at the buffer address plus 16 times its number (10). -/
def State.dumpAccess (s : State) (order : Nat) (d : DumpJob) : Access :=
  { kind := .dumpWrite order
    address := d.buffer + BitVec.ofNat 64 (d.written * recordSize)
    length := if d.subject = .summary then 64 else recordSize
    bytes := s.dumpRecord d, sendable := s.pcie.canWrite }

/-- The dump of the job with this take order. -/
def State.dumpOf (s : State) (order : Nat) : Option (Job × DumpJob) :=
  match s.job order with
  | some j => match j.work with
    | .dump d => some (j, d)
    | .link _ | .sync _ => none
  | none => none

/-- A failed access reaches the block that placed it (R180). The setup read is not tested against the
windows and has no place here. -/
def State.busError (s : State) : AccessKind → State
  | .completionWrite slot => s.haltRings .completion slot
  | .eventWrite slot _ => s.haltRings .event slot
  | .requestFetch slot _ => s.haltRings .request slot
  | .dumpWrite order =>
    match s.dumpOf order with
    | some (j, d) => (s.setFlight none).endDump j d .busError
    | none => s.setFlight none
  | .setupRead => s

/-- The access lies inside a window that permits it (R178). -/
def State.inWindow (s : State) (a : Access) : Bool :=
  match a.kind with
  | .requestFetch _ _ => readable s.mem.windows a.address.toNat a.length
  | .completionWrite _ | .eventWrite _ _ | .dumpWrite _ =>
    writable s.mem.windows a.address.toNat a.length
  | .setupRead => true

/-- The access goes in flight, or fails if no window permits it (R178). -/
def State.launch (s : State) (a : Access) : State :=
  if s.inWindow a then s.setFlight (some a) else (s.setFlight (some a)).busError a.kind

/-- The dump whose record is to be written next, with its take order. -/
def State.nextDump (s : State) : Option (Nat × DumpJob) :=
  match s.req.dumpQueue with
  | order :: _ => (s.dumpOf order).map fun p => (order, p.2)
  | [] => none

/-- One grant of the memory arbiter: with no access in flight, the first waiting one in the order
completion write, event write, request fetch, dump write (R179). Ring accesses and dump writes are
made in LIVE and DRAINING alone (R173, R178). -/
def State.grantMemory (s : State) : State :=
  if s.mem.inFlight.isSome || !s.ring.iface.inUse then s
  else match s.ring.completionWrites with
    | c :: cs => (s.setRing { s.ring with completionWrites := cs }).launch (s.completionAccess c)
    | [] => match s.ring.eventWrites with
      | e :: es => (s.setRing { s.ring with eventWrites := es }).launch (s.eventAccess e)
      | [] =>
        if s.fetchPlaced then s.launch s.fetchAccess
        else match s.nextDump with
          | some (order, d) => s.launch (s.dumpAccess order d)
          | none => s

/-! ## Register reads (R181, 10.7) -/

/-- The weight of five causes, the lowest at bit 0 (10.7). -/
def Causes.code (c : Causes) : Nat :=
  bitIf c.completion 1 + bitIf c.event 2 + bitIf c.urgent 4 + bitIf c.fault 8 + bitIf c.index 16

/-- The value that a 32-bit read of the register at an offset of the register window returns (R181,
10.7). A read changes nothing. -/
def State.readRegister (s : State) (offset : Nat) : BitVec 32 :=
  match offset with
  | 0x00 => BitVec.ofNat 32 (bitIf s.port.enable 1 + 256 * s.port.intEnable.code)
  | 0x04 => BitVec.ofNat 32 (s.ring.iface.code + 16 * s.mon.state.code + 256 * s.trip.latch.code
      + bitIf (!s.evt.backlog.isEmpty) 4096 + bitIf s.mon.guardActive 8192)
  | 0x08 => BitVec.ofNat 32 s.port.intCause.code
  | 0x0C => s.port.setup
  | 0x10 => BitVec.ofNat 32 s.ring.requestTail
  | 0x14 => BitVec.ofNat 32 s.ring.completionHead
  | 0x18 => BitVec.ofNat 32 s.ring.eventHead
  | 0x1C => BitVec.ofNat 32
      (s.port.fault.code.code + 16 * s.port.fault.struct.code + 65536 * s.port.fault.index)
  | _ => 0

/-- The byte at an offset of the register window. A register's bytes lie in ascending order of their
bits (log entry 33). -/
def State.registerByte (s : State) (offset : Nat) : Byte :=
  (s.readRegister (offset / 4 * 4)).extractLsb' (8 * (offset % 4)) 8

/-- What a read of `width` bytes at an offset of the register window returns: the bytes addressed
(R181). -/
def State.readBytes (s : State) (offset width : Nat) : List Byte :=
  (List.range width).map fun k => s.registerByte (offset + k)

end Sys2Proof.Machine
end

