-- ==== Sys2Proof/Machine/MemoryCommands.lean ====
section
/-! DEFINITION. The meanings of the memory master's and the ring engine's commands
(R43 to R46, R146, R159, R162, R168 to R173, R179). -/

namespace Sys2Proof.Machine

/-- The kind of the access in flight. -/
def State.flightKind (s : State) : Option AccessKind := s.mem.inFlight.map Access.kind

/-- The access in flight is a write that the port could send at its grant, so it ends without error
(R180). -/
def State.flightSent (s : State) : Bool :=
  match s.mem.inFlight with
  | some a => a.sendable
  | none => false

/-- The write in flight can fail: it could not be sent at its grant, or cannot be sent now (R180). -/
def State.writeCanFail (s : State) : Bool := !s.flightSent || !s.pcie.canWrite

/-- LOADING ends with the result of the checks (R170). -/
def State.endLoading (s : State) (block : Option SetupBlock) : State :=
  match block with
  | none =>
    let f : FaultRegister := { code := .setupBusError, struct := .setup, index := 0 }
    if s.port.enable then s.enterHalted f else (s.setFault f).setIface .off
  | some b =>
    match SetupBlock.check b with
    | some f => if s.port.enable then s.enterHalted f else (s.setFault f).setIface .off
    | none => if s.port.enable then (s.loadSetup b).enterLive else s.setIface .off

/-- SETUP_READ_DONE (R168 to R171). DESIGN CHOICE: the read may end without error whatever the port's
state, since R180 ties only writes to it (log entry 36). -/
def execSetupReadDone (block : Option (BitVec 1024)) (s : State) : Out :=
  if s.flightKind = some .setupRead then .next ((s.setFlight none).endLoading block) else .next s

/-- MEMORY_GRANT (R179). -/
def execMemoryGrant (s : State) : Out := .next s.grantMemory

/-- REQUEST_FETCH_DONE: the record becomes the staged request, unless it is to be discarded (R146).
DESIGN CHOICE: the read may end without error whatever the port's state, since R180 ties only writes
to it (log entry 36). -/
def execRequestFetchDone (record : BitVec 256) (s : State) : Out :=
  match s.flightKind with
  | some (.requestFetch slot discard) =>
    let s1 := s.setFlight none
    if discard then .next s1
    else .next (s1.setReq { s1.req with staged := some { record := record, slot := slot } })
  | _ => .next s

/-- COMPLETION_WRITE_DONE: the completion moderation step (R44). -/
def execCompletionWriteDone (s : State) : Out :=
  match s.flightKind with
  | some (.completionWrite _) =>
    if s.flightSent then .next (s.setFlight none).completionModStep else .next s
  | _ => .next s

/-- EVENT_WRITE_DONE: events posted is counted, the event moderation step is made, and URGENT is
raised for an urgent record (R33, R43, R45). -/
def execEventWriteDone (s : State) : Out :=
  match s.flightKind with
  | some (.eventWrite _ urgent) =>
    if s.flightSent then
      let s1 := s.setFlight none
      let s2 := { s1 with evt := { s1.evt with posted := s1.evt.posted + 1 } }
      let s3 := s2.eventModStep
      .next (if urgent then s3.raise Causes.urgentOnly else s3)
    else .next s
  | _ => .next s

/-- A dump record has been written; after the last one the dump completes OK (R159). -/
def State.dumpWritten (s : State) (j : Job) (d : DumpJob) : State :=
  let d1 := { d with written := d.written + 1 }
  if d.total ≤ d1.written then s.endDump j d1 .ok else s.setDump j.order d1

/-- DUMP_WRITE_DONE (R159). -/
def execDumpWriteDone (s : State) : Out :=
  match s.flightKind with
  | some (.dumpWrite order) =>
    if s.flightSent then
      match s.dumpOf order with
      | some (j, d) => .next ((s.setFlight none).dumpWritten j d)
      | none => .next (s.setFlight none)
    else .next s
  | _ => .next s

/-- DUMP_WRITE_BUS_ERROR: the dump ends BUS_ERROR with the records written before (R162). -/
def execDumpWriteBusError (s : State) : Out :=
  match s.flightKind with
  | some (.dumpWrite order) =>
    if s.writeCanFail then .next (s.busError (.dumpWrite order)) else .next s
  | _ => .next s

/-- RING_BUS_ERROR: a read may always fail, a write when it cannot be sent (R173, R180). -/
def execRingBusError (s : State) : Out :=
  if !s.ring.iface.inUse then .next s
  else match s.flightKind with
    | some (.requestFetch slot discard) => .next (s.busError (.requestFetch slot discard))
    | some (.completionWrite slot) =>
      if s.writeCanFail then .next (s.busError (.completionWrite slot)) else .next s
    | some (.eventWrite slot urgent) =>
      if s.writeCanFail then .next (s.busError (.eventWrite slot urgent)) else .next s
    | _ => .next s

/-- DRAINING_EXIT (R172). -/
def execDrainingExit (s : State) : Out := .next s.mayLeaveDraining

end Sys2Proof.Machine
end

