-- ==== Sys2Proof/Machine/PortCommands.lean ====
section
/-! DEFINITION. The meanings of the PCIe port's commands (R180, R183). -/

namespace Sys2Proof.Machine

/-- Put the PCIe port in place. -/
def State.setPcie (s : State) (p : PciePort) : State := { s with pcie := p }

/-- PORT_CONFIGURATION_WRITE (R180, R183). -/
def execPortConfigurationWrite (busMastering messages : Bool) (s : State) : Out :=
  .next (s.setPcie { s.pcie with busMastering := busMastering, messages := messages })

/-- PCIE_LINK_DOWN (R180). -/
def execPcieLinkDown (s : State) : Out := .next (s.setPcie { s.pcie with linkUp := false })

/-- PCIE_LINK_UP. A message lost while the link was down is not sent again (R183). -/
def execPcieLinkUp (s : State) : Out := .next (s.setPcie { s.pcie with linkUp := true })

end Sys2Proof.Machine
end

