-- ==== Sys2Proof/Machine/RegisterCommands.lean ====
section
/-! DEFINITION. The meanings of the register writes (R167, R174, R176, R177, R181 to R183, R189). -/

namespace Sys2Proof.Machine

/-- ENABLE_SET: a CONTROL write with ENABLE set (R174, R182). -/
def execEnableSet (value : BitVec 32) (s : State) : Out := .next (s.controlWrite value)

/-- ENABLE_CLEAR: a CONTROL write with ENABLE clear (R174, R182). -/
def execEnableClear (value : BitVec 32) (s : State) : Out := .next (s.controlWrite value)

/-- INTERRUPT_ENABLES_WRITE: a CONTROL write, for its interrupt enables (R182). -/
def execInterruptEnablesWrite (value : BitVec 32) (s : State) : Out := .next (s.controlWrite value)

/-- INT_CAUSE_WRITE: each cause whose bit is written as 1 is cleared (R183). -/
def execIntCauseWrite (value : BitVec 32) (s : State) : Out :=
  .next (s.clearCauses (Causes.ofBits value 0))

/-- The seven bits of SETUP that read as 0. -/
def setupLowBits : BitVec 32 := 0x7F

/-- SETUP_WRITE: the register takes bits 31 to 7 of the value (R167). -/
def execSetupWrite (value : BitVec 32) (s : State) : Out :=
  .next { s with port := { s.port with setup := value &&& ~~~setupLowBits } }

/-- The value that an index register takes from a write: bits 0 to 15 (R189). -/
def indexValue (value : BitVec 32) : Nat := (value.extractLsb' 0 16).toNat

/-- A refused index write raises INDEX (R176, R177). -/
def State.refuseIndex (s : State) : State := s.raise Causes.indexOnly

/-- An accepted REQ_TAIL: an index equal to the request head empties the ring and discards the staged
request (R176). -/
def State.acceptTail (s : State) (index : Nat) : State :=
  let s1 := s.setRing { s.ring with requestTail := index }
  if index = s1.ring.requestHead then s1.discardStaged else s1

/-- REQ_TAIL_WRITE (R176, R189). -/
def execReqTailWrite (value : BitVec 32) (s : State) : Out :=
  if !s.ring.iface.inUse then .next s
  else if s.ring.requestRingSize ≤ indexValue value then .next s.refuseIndex
  else .next (s.acceptTail (indexValue value))

/-- CPL_HEAD_WRITE (R177, R189). The take that it may make possible is a command of its own. -/
def execCplHeadWrite (value : BitVec 32) (s : State) : Out :=
  let size := s.ring.completionRingSize
  let index := indexValue value
  if !s.ring.iface.inUse then .next s
  else if size ≤ index ∨ s.ring.completionsUnread < ringDistance size index s.ring.completionHead then
    .next s.refuseIndex
  else .next (s.setRing { s.ring with completionHead := index })

/-- EVT_HEAD_WRITE: an accepted head frees slots, and the backlog is drained (R34, R177, R189). -/
def execEvtHeadWrite (value : BitVec 32) (s : State) : Out :=
  let size := s.ring.eventRingSize
  let index := indexValue value
  if !s.ring.iface.inUse then .next s
  else if size ≤ index ∨ s.ring.eventsUnread < ringDistance size index s.ring.eventHead then
    .next s.refuseIndex
  else .next (s.setRing { s.ring with eventHead := index }).drain

/-- REGISTER_WRITE_IGNORED (R181). -/
def execRegisterWriteIgnored (_offset _width : Nat) (_value : BitVec 32) (s : State) : Out := .next s

end Sys2Proof.Machine
end

