-- ==== Sys2Proof/Machine/RequestCommands.lean ====
section
/-! DEFINITION. The meanings of the takes of requests, one for each kind (08_requests_and_completions.md;
01, section 1.8; 03, section 3.7; 07, sections 7.5 to 7.9). -/

namespace Sys2Proof.Machine

/-- NOP: completes OK at its take (R155). -/
def execNop (s : State) : Out :=
  .next (s.request .nop fun r t => t.complete (Request.completion r .ok))

/-- The orders of the jobs that a SYNC waits for: those in slots, but for abandoned ones, which never
complete (R156; log entry 19). -/
def State.syncSet (s : State) : List Nat :=
  (s.req.jobs.filter fun j => !j.abandoned).map Job.order

/-- What a SYNC does once checked (R156). -/
def State.takeSync (s : State) (r : Request) : State :=
  if s.syncSet.isEmpty then s.complete (Request.completion r .ok)
  else s.place r .sync (.sync s.syncSet)

/-- SYNC (R156). -/
def execSync (s : State) : Out := .next (s.request .sync fun r t => t.takeSync r)

/-! ## CONFIGURE (R137, R138) -/

/-- The end of guard (R138, its five steps). -/
def State.endGuard (s : State) : State :=
  let s1 := s.endGuardPoll.endGuardWork.endRecovery
  let s2 := s1.setMon { s1.mon with guardActive := false, guardStage := none, rosterComplete := false }
  let s3 := s2.tripGuardEnded
  s3.setMon { s3.mon with state := .stopped }

/-- The six parameters are replaced, and the monitor controller acts on the changes (R137). -/
def State.setParams (s : State) (p : Params) : State :=
  let old := s.mon.params
  let s1 := s.setMon { s.mon with
    params := p
    rosterComplete := s.mon.rosterComplete && p.stationMask == old.stationMask }
  if p.attentionUse != old.attentionUse then s1.rederiveAll else s1

/-- What a CONFIGURE does once checked (R137, R138). -/
def State.takeConfigure (s : State) (r : Request) : State :=
  if !(Request.params r).inRange then s.complete (Request.completion r .badField)
  else
    let s1 := s.setParams (Request.params r)
    let s2 := if s1.mon.state = .guarding then s1.endGuard else s1
    s2.complete (Request.completion r .ok)

/-- CONFIGURE (R137). -/
def execConfigure (s : State) : Out := .next (s.request .configure fun r t => t.takeConfigure r)

/-! ## START and STOP (R139, R144) -/

/-- The completion of START or STOP, with the monitor state after the request (R154). -/
def State.monitorCompletion (s : State) (r : Request) : Completion :=
  { Request.completion r .ok with stateOrCondition := s.mon.state.code }

/-- Monitoring or enumeration begins (R139, step 3). -/
def State.beginMonitoring (s : State) : State :=
  if s.mon.rosterComplete then s.setMon { s.mon with state := .monitoring }
  else s.setMon { s.mon with state := .enumerating, enumeration := some { last := 0, probe := none } }

/-- What a START does once checked (R139; R79 for the reprobe times). DESIGN CHOICE: the reprobe times, which
R139 does not place, are set before its step 2, so a station that step 4 takes out of use keeps the time of
R80 (log entry 45). -/
def State.takeStart (s : State) (r : Request) : State :=
  let s1 := s.channelsStart.reprobeNow.startTimer.beginMonitoring
  let s2 := if s1.bus.stuckReported then s1.enterRecovering .lineStuck else s1
  s2.complete (s2.monitorCompletion r)

/-- START (R139). -/
def execStart (s : State) : Out := .next (s.request .start fun r t => t.takeStart r)

/-- The monitor controller's own work ends at STOP, by the state it finds (R144). -/
def State.endMonitorWork (s : State) : State :=
  match s.mon.state with
  | .enumerating => s.endEnumeration
  | .recovering =>
    let s1 := s.endRecovery
    s1.setMon { s1.mon with rosterComplete := false }
  | .monitoring | .guarding | .stopped => s

/-- What a STOP does once checked (R109, R144, R161). DESIGN CHOICE: the completions of the aborted link
jobs are claimed before that of the aborted NEXT_SWEEP dump, for whose order R144 has no word (log
entry 34). -/
def State.takeStop (s : State) (r : Request) : State :=
  let s1 := s.endMonitorWork.stopSweeping
  let s2 := (s1.endLinkJobs s1.sched.jobs .aborted).abortWaitingDump
  let s3 := s2.setMon { s2.mon with state := .stopped }
  s3.complete (s3.monitorCompletion r)

/-- STOP (R144). -/
def execStop (s : State) : Out := .next (s.request .stop fun r t => t.takeStop r)

/-! ## Channel requests (R18 to R22) -/

/-- The location is one that a channel may have (R18, second check). -/
def Location.inRange (l : Location) : Bool :=
  1 ≤ l.station && l.station ≤ 12 && l.fn ≤ 3 && l.point ≤ 7

/-- The kind-specific checks of DEFINE_CHANNEL, in their order: the first that fails (R18). -/
def State.defineCheck (s : State) (n : Nat) (b : Binding) : Option Status :=
  let r := s.stn b.loc.station
  if (s.chan n).bound then some .alreadyBound
  else if !b.loc.inRange then some .badField
  else if r.state == .adopted && !r.hasPoint b.loc.fn b.loc.point then some .badPoint
  else if (s.channelAt b.loc).isSome then some .pointTaken
  else if !b.limits.valid b.format then some .badLimits
  else none

/-- A new channel record: the initial condition follows the station's state (R19). -/
def Channel.defined (c : Channel) (b : Binding) (st : StationState) (now : Time) : Channel :=
  let base : Channel :=
    { generation := c.generation + 1, binding := some b, condition := .pending, reason := none,
      last := none, pendingSince := some now, peaks := none }
  match st with
  | .unknown | .adopted => base
  | .silent | .absent | .rejected =>
    { base with condition := .unreachable, reason := st.channelReason, pendingSince := none }

/-- What a DEFINE_CHANNEL does once checked (R18, R19). -/
def State.takeDefine (s : State) (r : Request) : State :=
  let n := Request.channel r
  let b := Request.binding r
  match s.defineCheck n b with
  | some status => s.complete (s.channelCompletion r status)
  | none =>
    let s1 := s.setChan n ((s.chan n).defined b (s.stn b.loc.station).state s.now)
    let s2 := s1.rederive b.loc.station
    s2.complete (s2.channelCompletion r .ok)

/-- DEFINE_CHANNEL (R18, R19). -/
def execDefineChannel (s : State) : Out :=
  .next (s.request .defineChannel fun r t => t.takeDefine r)

/-- A retired channel record: the generation is kept (R20). -/
def Channel.retired (c : Channel) : Channel := { Channel.reset with generation := c.generation }

/-- A bound channel is retired: the state after, and whether a backlog entry was discarded (R20). -/
def State.retire (s : State) (n : Nat) (b : Binding) : State × Bool :=
  let c := s.chan n
  let s1 := s.setChan n c.retired
  let d := s1.discardEntry n
  let s2 := if b.member then d.1.memberReport n c.condition .unbound .retirement else d.1
  (s2.rederive b.loc.station, d.2)

/-- What a RETIRE_CHANNEL does once checked (R20, R37). -/
def State.takeRetire (s : State) (r : Request) : State :=
  let n := Request.channel r
  match (s.chan n).binding with
  | none => s.complete (s.channelCompletion r .notBound)
  | some b =>
    let d := s.retire n b
    d.1.complete { d.1.channelCompletion r .ok with discarded := d.2 }

/-- RETIRE_CHANNEL (R20). -/
def execRetireChannel (s : State) : Out :=
  .next (s.request .retireChannel fun r t => t.takeRetire r)

/-- The conditions in which SET_LIMITS re-evaluates at once (R21). -/
def Condition.judged (c : Condition) : Bool :=
  c == .normal || c == .lowAlarm || c == .highAlarm || c == .critical

/-- A channel with new limits (R21). -/
def Channel.withLimits (c : Channel) (l : Limits) : Channel :=
  { c with binding := c.binding.map fun b => { b with limits := l } }

/-- The re-evaluation of a channel with its last value (R21). -/
def State.reevaluate (s : State) (n : Nat) (b : Binding) : State :=
  let c := s.chan n
  match c.last with
  | some l =>
    if s.mon.state = .monitoring ∧ c.condition.judged then
      s.settle n (judge b.format b.limits c.condition (b.format.value l.value)) none .change true
    else s
  | none => s

/-- The completion of SET_LIMITS: generation and condition (R154). -/
def State.limitsCompletion (s : State) (r : Request) (status : Status) : Completion :=
  { s.channelCompletion r status with
    stateOrCondition := (s.chan (Request.channel r)).condition.code }

/-- What a SET_LIMITS does once checked (R21). -/
def State.takeSetLimits (s : State) (r : Request) : State :=
  let n := Request.channel r
  let l := Request.limits r
  match (s.chan n).binding with
  | none => s.complete (s.limitsCompletion r .notBound)
  | some b =>
    if !l.valid b.format then s.complete (s.limitsCompletion r .badLimits)
    else
      let s1 := (s.setChan n ((s.chan n).withLimits l)).reevaluate n { b with limits := l }
      s1.complete (s1.limitsCompletion r .ok)

/-- SET_LIMITS (R21). -/
def execSetLimits (s : State) : Out := .next (s.request .setLimits fun r t => t.takeSetLimits r)

/-- The peaks are set absent (R22). -/
def State.clearPeaks (s : State) (n : Nat) : State :=
  s.setChan n { s.chan n with peaks := none }

/-- What a READ_CHANNEL does once checked (R22). -/
def State.takeRead (s : State) (r : Request) : State :=
  let n := Request.channel r
  if !(s.chan n).bound then s.complete (s.channelCompletion r .notBound)
  else
    let c := (Request.completion r .ok).withChannel (s.chan n)
    (if Request.clearPeaks r then s.clearPeaks n else s).complete c

/-- READ_CHANNEL (R22). -/
def execReadChannel (s : State) : Out := .next (s.request .readChannel fun r t => t.takeRead r)

/-! ## Link jobs (R76, R103, R104) -/

/-- The job takes its place at the tail of the link-job queue (R103). -/
def State.queueLink (s : State) (work : LinkWork) : State :=
  s.setSched { s.sched with jobs := s.sched.jobs ++
    [{ order := s.req.takeOrder, abandoned := false, work := work }] }

/-- A FRESH_READ at its take: the channel's generation is recorded (R104). -/
def FreshRead.begin (n : Nat) (generation : BitVec 8) (now : Time) : FreshRead :=
  { channel := n, generation := generation, taken := now, stage := .convert, acked := false,
    flagSeen := false, fault := false, quality := none }

/-- What a FRESH_READ does once checked (R104, R150). -/
def State.takeFresh (s : State) (r : Request) : State :=
  let n := Request.channel r
  let f := FreshRead.begin n (s.chan n).generation s.now
  if !(s.chan n).bound then s.complete (s.channelCompletion r .notBound)
  else match s.freshCheck f with
    | .error status => s.complete (s.channelCompletion r status)
    | .ok _ => (s.place r .freshRead (.link f.generation)).queueLink (.fresh f)

/-- FRESH_READ (R104). -/
def execFreshRead (s : State) : Out := .next (s.request .freshRead fun r t => t.takeFresh r)

/-- A RESCAN occupies a job slot (R76). -/
def State.rescanPresent (s : State) : Bool := s.req.jobs.any fun j => j.kind == .rescan

/-- What a RESCAN does once checked (R76, R108). -/
def State.takeRescan (s : State) (r : Request) : State :=
  if Request.addressSet r = 0 then s.complete (Request.completion r .badField)
  else if s.rescanPresent then s.complete (Request.completion r .busy)
  else (s.place r .rescan (.link 0)).queueLink
    (.rescan (Request.addressSet r) { last := 0, probe := none })

/-- RESCAN (R76, R108). -/
def execRescan (s : State) : Out := .next (s.request .rescan fun r t => t.takeRescan r)

/-! ## ACCEPT_STATION (R75) -/

/-- The station is accepted: the identity as last read becomes the fingerprint, the station is
ADOPTED, and its plan is derived with plan-applied clear (R75). -/
def State.acceptStation (s : State) (a : Nat) : State :=
  s.moveStation a { (s.stn a).toAdopted with plan := s.derivedPlan a, planApplied := false }

/-- The completion of ACCEPT_STATION with the station's state (R154). -/
def State.stationCompletion (s : State) (r : Request) (status : Status) : Completion :=
  { Request.completion r status with stateOrCondition := (s.stn (Request.station r)).state.code }

/-- What an ACCEPT_STATION does once checked (R75). -/
def State.takeAccept (s : State) (r : Request) : State :=
  let a := Request.station r
  if a < 1 ∨ 12 < a then s.complete (Request.completion r .badField)
  else if (s.stn a).state = .rejected ∧ (s.stn a).reason = some .changed then
    let s1 := s.acceptStation a
    s1.complete (s1.stationCompletion r .ok)
  else s.complete (s.stationCompletion r .badState)

/-- ACCEPT_STATION (R75). -/
def execAcceptStation (s : State) : Out :=
  .next (s.request .acceptStation fun r t => t.takeAccept r)

/-! ## DUMP (R158 to R160) -/

/-- A DUMP as its request gives it, before it begins to write. -/
def Request.dump (r : Request) (phase : DumpPhase) : DumpJob :=
  { subject := Request.dumpSubject r, nextSweep := Request.dumpNextSweep r
    first := Request.dumpFirst r, count := Request.dumpCount r, buffer := Request.dumpBuffer r
    written := 0, phase := phase }

/-- The bytes that a dump writes (R158). -/
def DumpJob.size (d : DumpJob) : Nat :=
  match d.subject with
  | .summary => 64
  | .channels | .stations => recordSize * d.total

/-- A NEXT_SWEEP dump occupies a job slot (R157, R158). -/
def State.nextSweepPresent (s : State) : Bool :=
  s.req.jobs.any fun j => match j.work with
    | .dump d => d.nextSweep
    | .link _ | .sync _ => false

/-- The five kind-specific checks of DUMP, in their order: the first that fails (R158). -/
def State.dumpCheck (s : State) (d : DumpJob) : Option Status :=
  if d.subject = .channels ∧ (d.count < 1 ∨ 128 < d.count ∨ 128 < d.first + d.count) then
    some .badField
  else if d.nextSweep ∧ d.subject ≠ .channels then some .badField
  else if d.buffer.toNat % 16 ≠ 0 then some .badField
  else if d.nextSweep ∧ s.nextSweepPresent then some .busy
  else if !writable s.mem.windows d.buffer.toNat d.size then some .windowFault
  else none

/-- A LATEST dump begins writing at its take, behind the dumps already writing (R159). -/
def State.queueDump (s : State) : State :=
  s.setReq { s.req with dumpQueue := s.req.dumpQueue ++ [s.req.takeOrder] }

/-- What a DUMP does once checked (R158 to R160). -/
def State.takeDump (s : State) (r : Request) : State :=
  let phase := if Request.dumpNextSweep r then .waiting s.sched.sweep.isSome else .writing none
  let d := Request.dump r phase
  match s.dumpCheck d with
  | some status => s.complete (Request.completion r status)
  | none =>
    let s1 := s.place r .dump (.dump d)
    if d.nextSweep then s1 else s1.queueDump

/-- DUMP (R158). -/
def execDump (s : State) : Out := .next (s.request .dump fun r t => t.takeDump r)

/-! ## REARM_TRIP and FORCE_TRIP (R57, R58) -/

/-- The completion of REARM_TRIP and FORCE_TRIP, with the latch state (R154). -/
def State.latchCompletion (s : State) (r : Request) : Completion :=
  { Request.completion r .ok with stateOrCondition := s.trip.latch.code }

/-- The marks are cleared and the rearm time is set (R58). -/
def TripUnit.rearmed (t : TripUnit) (now : Time) : TripUnit :=
  { t with latch := .rearmWait, rearmTime := some now, marks := 0, guardQualified := false }

/-- The effect of REARM_TRIP by the latch state it finds (R58). -/
def State.rearm (s : State) : State :=
  match s.trip.latch with
  | .clear => s
  | .tripped =>
    let s1 := s.setTrip (s.trip.rearmed s.now)
    (s1.notify (s1.tripNotice .tripped .rearmWait s1.trip.firstCause.1 s1.trip.firstCause.2)).releaseTest
  | .rearmWait => (s.setTrip (s.trip.rearmed s.now)).releaseTest

/-- What a REARM_TRIP does once checked (R58). -/
def State.takeRearm (s : State) (r : Request) : State :=
  let s1 := s.rearm
  s1.complete { s1.latchCompletion r with notTripped := s.trip.latch == .clear }

/-- REARM_TRIP (R58). -/
def execRearmTrip (s : State) : Out := .next (s.request .rearmTrip fun r t => t.takeRearm r)

/-- What a FORCE_TRIP does once checked (R57). -/
def State.takeForce (s : State) (r : Request) : State :=
  let s1 := s.raiseCause .forced 0
  s1.complete (s1.latchCompletion r)

/-- FORCE_TRIP (R57). -/
def execForceTrip (s : State) : Out := .next (s.request .forceTrip fun r t => t.takeForce r)

/-- UNKNOWN_KIND: a taken request of no known kind completes BAD_KIND (R149, first check). -/
def execUnknownKind (s : State) : Out :=
  .next (s.taking none fun r t => t.complete (Request.completion r .badKind))

end Sys2Proof.Machine
end

