-- ==== Sys2Proof/Machine/ResetCommands.lean ====
section
/-! DEFINITION. The meanings of the reset commands (R185, R186). -/

namespace Sys2Proof.Machine

/-- POWER_ON_RESET: every block takes its power-on values. The levels of the bus wires, the PCIe link
and the waiting commands are outside the part (R186). -/
def execPowerOnReset (s : State) : Out :=
  .next { State.reset with
    pending := s.pending
    bus := { DropBus.reset with datLow := s.bus.datLow, attnLow := s.bus.attnLow }
    pcie := { PciePort.reset with linkUp := s.pcie.linkUp } }

/-- PCIE_RESET: a controller reset that also resets the port's configuration (R185). -/
def execPcieReset (s : State) : Out :=
  let s1 := s.controllerReset
  .next { s1 with pcie := { s1.pcie with busMastering := false, messages := false } }

/-- CONTROL_RESET: a CONTROL write with RESET set (R182, R185). -/
def execControlReset (value : BitVec 32) (s : State) : Out := .next (s.controlWrite value)

end Sys2Proof.Machine
end

