-- ==== Sys2Proof/Machine/TimeCommands.lean ====
section
/-! DEFINITION. The meanings of the steps made on monitor time (R131 and the rules it names). A step
whose time has not come leaves the state as it is. -/

namespace Sys2Proof.Machine

/-- MONITOR_TIME_TICK (R131). -/
def execMonitorTimeTick (s : State) : Out := .next (s.setMon { s.mon with time := s.mon.time + 1 })

/-- FRESHNESS_STEP: while MONITORING, at a time that is a multiple of 10 (R16). -/
def execFreshnessStep (s : State) : Out :=
  if s.mon.state = .monitoring ∧ s.now.toNat % Config.freshnessPeriod = 0 then .next s.freshness
  else .next s

/-- TRIP_GRACE_EXPIRY (R53). -/
def execTripGraceExpiry (s : State) : Out :=
  if s.graceOver then .next s.raiseLinkCause else .next s

/-- EVENT_MODERATION_DELAY (R43). -/
def execEventModerationDelay (s : State) : Out :=
  if s.ring.eventMod.delayOver s.now s.ring.eventModeration.2 then .next s.raiseEvent else .next s

/-- COMPLETION_MODERATION_DELAY (R44). -/
def execCompletionModerationDelay (s : State) : Out :=
  if s.ring.completionMod.delayOver s.now s.ring.completionModeration.2 then .next s.raiseCompletion
  else .next s

/-- The firing of the sweep timer: the next firing is one period later, and a sweep begins, or is owed
and counted as an overrun (R93, R94). -/
def State.timerFires (s : State) (t : SweepTimer) : State :=
  let s1 := s.setSched { s.sched with
    timer := some { t with next := t.next + BitVec.ofNat 32 t.period } }
  if s1.sched.sweep.isSome then
    s1.setSched { s1.sched with sweepOverruns := s1.sched.sweepOverruns + 1, owedSweep := true }
  else s1.beginSweep

/-- SWEEP_TIMER_FIRING (R93). -/
def execSweepTimerFiring (s : State) : Out :=
  match s.sched.timer with
  | some t => if s.reached t.next then .next (s.timerFires t) else .next s
  | none => .next s

/-- A FRESH_READ that has not completed in the 200 ms since its take (R107). -/
def State.freshTimedOut (s : State) (j : LinkJob) : Bool :=
  !j.abandoned && match j.work with
    | .fresh f => Config.freshReadLimit ≤ s.elapsed f.taken
    | .rescan _ _ => false

/-- FRESH_READ_TIMEOUT: the first such job of the queue ends TIMEOUT (R107). -/
def execFreshReadTimeout (s : State) : Out :=
  match s.sched.jobs.find? s.freshTimedOut with
  | some j => .next (s.endLinkJob j .timeout)
  | none => .next s

/-- A FRESH_READ whose 2 ms poll wait is over polls again (R105). -/
def FreshRead.waitOver (f : FreshRead) (s : State) : FreshRead :=
  match f.stage with
  | .waiting since => if Config.pollWait ≤ s.elapsed since then { f with stage := .poll } else f
  | .convert | .poll | .replan | .quality | .reading => f

/-- POLL_WAIT_EXPIRY (R105). -/
def execPollWaitExpiry (s : State) : Out :=
  match s.sched.jobs with
  | j :: _ => match j.work with
    | .fresh f => .next (s.setRunning (.fresh (f.waitOver s)))
    | .rescan _ _ => .next s
  | [] => .next s

/-- The next guard poll time has come, with station 1 ADOPTED, guard watching and no poll present
(R133). -/
def State.guardPollDue (s : State) : Bool :=
  s.mon.state == .guarding && s.mon.guardStage == some .watching && s.mon.guardPoll.isNone
    && (s.stn 1).state == .adopted &&
    match s.mon.nextGuardPoll with
    | some t => s.reached t
    | none => false

/-- GUARD_POLL_DUE: the poll begins, and the next one is due 250 ms after its begin time (R133). -/
def execGuardPollDue (s : State) : Out :=
  if s.guardPollDue then
    .next (s.setMon { s.mon with
      guardPoll := some { stage := .convert, beginTime := s.now, fault := false, quality := 0 }
      nextGuardPoll := some (s.later Config.guardPollPeriod) })
  else .next s

/-- A guard poll whose 2 ms wait is over reads STATUS again (R133). -/
def GuardPoll.waitOver (g : GuardPoll) (s : State) : GuardPoll :=
  match g.stage with
  | .waiting since => if Config.pollWait ≤ s.elapsed since then { g with stage := .poll } else g
  | .convert | .poll | .replan | .quality | .reading => g

/-- GUARD_POLL_WAIT_EXPIRY (R133). -/
def execGuardPollWaitExpiry (s : State) : Out :=
  match s.mon.guardPoll with
  | some g => .next (s.setGuardPoll (some (g.waitOver s)))
  | none => .next s

/-- The guard poll has not reached its read step (R133). -/
def GuardPoll.beforeRead (g : GuardPoll) : Bool :=
  match g.stage with
  | .convert | .poll | .waiting _ | .replan => true
  | .quality | .reading => false

/-- GUARD_POLL_TIMEOUT: the poll ends without a reading (R133). -/
def execGuardPollTimeout (s : State) : Out :=
  match s.mon.guardPoll with
  | some g =>
    if g.beforeRead ∧ Config.guardPollLimit ≤ s.elapsed g.beginTime then
      .next ((s.setGuardPoll none).orphan .guardPoll)
    else .next s
  | none => .next s

/-- In GUARD, watching, station 1 is SILENT and its reprobe time has come (R134). -/
def State.guardReprobeDue (s : State) : Bool :=
  s.mon.state == .guarding && s.mon.guardStage == some .watching && s.mon.guardReprobe.isNone
    && s.reprobeDue 1

/-- GUARD_REPROBE_DUE (R134). -/
def execGuardReprobeDue (s : State) : Out :=
  if s.guardReprobeDue then
    .next (s.setMon { s.mon with guardReprobe := some { last := 0, probe := none } })
  else .next s

/-- RECOVERY_RETRY_WAIT_EXPIRY: 2000 ms after the report a new release round begins (R142). -/
def execRecoveryRetryWaitExpiry (s : State) : Out :=
  match s.mon.recovery with
  | some r => match r.stage with
    | .retryWait since =>
      if Config.retryWait ≤ s.elapsed since then .next (s.beginRound r.reason) else .next s
    | .releaseRound => .next s
    | .broadcastReset => .next s
    | .probing _ => .next s
  | none => .next s

end Sys2Proof.Machine
end

