-- ==== Sys2Proof/Machine/Dispatch.lean ====
section
/-! DEFINITION. What each command does: one arm for each row of spec/opcode_table.json. -/

namespace Sys2Proof.Machine

def exec (i : Instr) (s : State) : Host.Outcome State Fault Refusal :=
  match i with
  | .powerOnReset => Sys2Proof.Machine.execPowerOnReset s
  | .pcieReset => Sys2Proof.Machine.execPcieReset s
  | .controlReset value => Sys2Proof.Machine.execControlReset value s
  | .enableSet value => Sys2Proof.Machine.execEnableSet value s
  | .enableClear value => Sys2Proof.Machine.execEnableClear value s
  | .interruptEnablesWrite value => Sys2Proof.Machine.execInterruptEnablesWrite value s
  | .intCauseWrite value => Sys2Proof.Machine.execIntCauseWrite value s
  | .setupWrite value => Sys2Proof.Machine.execSetupWrite value s
  | .reqTailWrite value => Sys2Proof.Machine.execReqTailWrite value s
  | .cplHeadWrite value => Sys2Proof.Machine.execCplHeadWrite value s
  | .evtHeadWrite value => Sys2Proof.Machine.execEvtHeadWrite value s
  | .registerWriteIgnored offset width value => Sys2Proof.Machine.execRegisterWriteIgnored offset width value s
  | .setupReadDone block => Sys2Proof.Machine.execSetupReadDone block s
  | .memoryGrant => Sys2Proof.Machine.execMemoryGrant s
  | .requestFetchDone record => Sys2Proof.Machine.execRequestFetchDone record s
  | .completionWriteDone => Sys2Proof.Machine.execCompletionWriteDone s
  | .eventWriteDone => Sys2Proof.Machine.execEventWriteDone s
  | .dumpWriteDone => Sys2Proof.Machine.execDumpWriteDone s
  | .dumpWriteBusError => Sys2Proof.Machine.execDumpWriteBusError s
  | .ringBusError => Sys2Proof.Machine.execRingBusError s
  | .drainingExit => Sys2Proof.Machine.execDrainingExit s
  | .nop => Sys2Proof.Machine.execNop s
  | .sync => Sys2Proof.Machine.execSync s
  | .configure => Sys2Proof.Machine.execConfigure s
  | .start => Sys2Proof.Machine.execStart s
  | .stop => Sys2Proof.Machine.execStop s
  | .defineChannel => Sys2Proof.Machine.execDefineChannel s
  | .retireChannel => Sys2Proof.Machine.execRetireChannel s
  | .setLimits => Sys2Proof.Machine.execSetLimits s
  | .readChannel => Sys2Proof.Machine.execReadChannel s
  | .freshRead => Sys2Proof.Machine.execFreshRead s
  | .rescan => Sys2Proof.Machine.execRescan s
  | .acceptStation => Sys2Proof.Machine.execAcceptStation s
  | .dump => Sys2Proof.Machine.execDump s
  | .rearmTrip => Sys2Proof.Machine.execRearmTrip s
  | .forceTrip => Sys2Proof.Machine.execForceTrip s
  | .unknownKind => Sys2Proof.Machine.execUnknownKind s
  | .monitorTimeTick => Sys2Proof.Machine.execMonitorTimeTick s
  | .freshnessStep => Sys2Proof.Machine.execFreshnessStep s
  | .tripGraceExpiry => Sys2Proof.Machine.execTripGraceExpiry s
  | .eventModerationDelay => Sys2Proof.Machine.execEventModerationDelay s
  | .completionModerationDelay => Sys2Proof.Machine.execCompletionModerationDelay s
  | .sweepTimerFiring => Sys2Proof.Machine.execSweepTimerFiring s
  | .freshReadTimeout => Sys2Proof.Machine.execFreshReadTimeout s
  | .pollWaitExpiry => Sys2Proof.Machine.execPollWaitExpiry s
  | .guardPollDue => Sys2Proof.Machine.execGuardPollDue s
  | .guardPollWaitExpiry => Sys2Proof.Machine.execGuardPollWaitExpiry s
  | .guardPollTimeout => Sys2Proof.Machine.execGuardPollTimeout s
  | .guardReprobeDue => Sys2Proof.Machine.execGuardReprobeDue s
  | .recoveryRetryWaitExpiry => Sys2Proof.Machine.execRecoveryRetryWaitExpiry s
  | .linkGrant => Sys2Proof.Machine.execLinkGrant s
  | .responseReceived bits => Sys2Proof.Machine.execResponseReceived bits s
  | .responseWindowExpiry => Sys2Proof.Machine.execResponseWindowExpiry s
  | .startCheckTimeout outcomeFirst => Sys2Proof.Machine.execStartCheckTimeout outcomeFirst s
  | .lineMonitorStuck => Sys2Proof.Machine.execLineMonitorStuck s
  | .dbDatReleased => Sys2Proof.Machine.execDbDatReleased s
  | .dbAttnAsserted => Sys2Proof.Machine.execDbAttnAsserted s
  | .dbAttnReleased => Sys2Proof.Machine.execDbAttnReleased s
  | .releaseSequenceEnd => Sys2Proof.Machine.execReleaseSequenceEnd s
  | .broadcastResetSettleEnd => Sys2Proof.Machine.execBroadcastResetSettleEnd s
  | .dbDatLow => Sys2Proof.Machine.execDbDatLow s
  | .portConfigurationWrite busMastering messages => Sys2Proof.Machine.execPortConfigurationWrite busMastering messages s
  | .pcieLinkDown => Sys2Proof.Machine.execPcieLinkDown s
  | .pcieLinkUp => Sys2Proof.Machine.execPcieLinkUp s

end Sys2Proof.Machine
end

