-- ==== Sys2Proof/Machine/StationDevice.lean ====
section
/-! DEFINITION. The register view and behaviour of a station, as far as the supervisor relies on it
(06, section 6.5; R120 to R125). A station is no part of State: it stands on the other side of the
Drop Bus. -/

namespace Sys2Proof.Machine

/-- A frame that a station is part way through sending or receiving (R125): the clock pulses that its
start mark and fields still lead the station to expect, the pulses seen beyond that length with no
start mark among them, and, while it sends, whether it holds DB_DAT low. -/
structure FrameInProgress where
  sending : Bool
  expected : Nat
  beyond : Nat
  datLow : Bool
  deriving DecidableEq, Repr

/-- A station. `results` holds, for each function, the points of its last completed pass; it is empty
while the function has completed none. `running` marks the functions with a pass in progress, and
`requested` those whose pass was started or marked by convert-now. `frame` is the frame in progress;
with none the station waits for a start mark. -/
structure StationDevice where
  address : Nat
  cls : Byte
  rev : Byte
  fns : Nat
  pts : Nat
  fault : Bool
  resetDone : Bool
  fnEnables : BitVec 4
  attnEnables : BitVec 4
  flags : BitVec 4
  running : BitVec 4
  requested : BitVec 4
  results : Vector (List (Count × Quality)) 4
  frame : Option FrameInProgress := none
  deriving DecidableEq, Repr

namespace StationDevice

/-- The bits of the functions below the function count. -/
def own (d : StationDevice) : BitVec 4 := flagsOf fun f => f < d.fns

/-- The station holds DB_ATTN low while any attention flag is set (R124). -/
def holdsAttn (d : StationDevice) : Bool := d.flags != 0

/-- The station resets itself (R125). DESIGN CHOICE: the reset alone leaves a frame in progress and the
level held on DB_DAT as they are, since R125 lists no such effect of it (log entry 35). DESIGN CHOICE:
every pass in progress ends and loses its requested mark, one started by convert-now on a function whose
enable is clear among them, of which R125 says nothing (log entry 38). -/
def reset (d : StationDevice) : StationDevice :=
  { d with
    fnEnables := 0, attnEnables := 0, flags := 0, running := 0, requested := 0
    results := Vector.replicate 4 [], resetDone := true }

/-- The frame is over, sent or received whole or abandoned: DB_DAT is released and the station waits
for the next start mark. -/
def leaveFrame (d : StationDevice) : StationDevice := { d with frame := none }

/-- The station is powered up: it resets itself, part way through no frame, and DB_DAT is released
(R125; 07, section 7.11). -/
def powerUp (d : StationDevice) : StationDevice := d.reset.leaveFrame

/-- The result of a point: value 0 and CONVERT_ERR while its function has completed no pass (R123). -/
def point (d : StationDevice) (fn p : Nat) : Count × Quality :=
  ((d.results[fn]?.getD [])[p]?).getD (0, .convertErr)

/-- The STATUS word as it stands (R121, 10.8). DESIGN CHOICE: bits 6 to 15 are sent as 0 (log entry 41). -/
def status (d : StationDevice) : BitVec 16 :=
  d.flags.setWidth 16 ||| (if d.resetDone then BitVec.twoPow 16 4 else 0)
    ||| (if d.fault then BitVec.twoPow 16 5 else 0)

/-- The QUALITY word of a function (10.8). DESIGN CHOICE: the pairs of points at or above the points per
function are sent as 0 (log entry 41). -/
def qualityWord (d : StationDevice) (fn : Nat) : BitVec 16 :=
  (List.range d.pts).foldl (fun w p => w ||| BitVec.ofNat 16 ((d.point fn p).2.code * 4 ^ p)) 0

/-- What a READ of a register returns; `none` is a NAK (R120, the table of section 6.5).
DESIGN CHOICE: the bits of ID1 and CONTROL that 10.8 does not name are sent as 0 (log entry 41). -/
def readValue (d : StationDevice) (register : Nat) : Option (BitVec 16) :=
  if register = regId0 then some (d.cls ++ d.rev)
  else if register = regId1 then some (BitVec.ofNat 16 (d.fns + 16 * d.pts))
  else if register = regStatus then some d.status
  else if register = regControl then
    some (d.fnEnables.setWidth 16 ||| (d.attnEnables.setWidth 16 <<< 4))
  else if 16 ≤ register ∧ register < 48 then
    let fn := (register - 16) / 8
    let p := (register - 16) % 8
    if fn < d.fns ∧ p < d.pts then some (d.point fn p).1 else none
  else if 48 ≤ register ∧ register < 52 then
    if register - 48 < d.fns then some (d.qualityWord (register - 48)) else none
  else none

/-- The state after an accepted READ: a READ of STATUS clears every attention flag (R121). -/
def afterRead (d : StationDevice) (register : Nat) : StationDevice :=
  if register = regStatus then { d with flags := 0 } else d

/-- An accepted WRITE of CONTROL (R122, R123). DESIGN CHOICE: the convert-now bits of functions at or
above the function count are ignored, as R122 says it of the enables alone (log entry 31).
DEDUCED: the enables are replaced before the convert-now bits act, and a function that is enabled keeps the
pass in progress on it (log entry 43). -/
def control (d : StationDevice) (w : BitVec 16) : StationDevice :=
  let enables : BitVec 4 := w.extractLsb' 0 4 &&& d.own
  let convert : BitVec 4 := w.extractLsb' 8 4 &&& d.own
  let stopped : BitVec 4 := d.fnEnables &&& ~~~enables
  let d1 := { d with
    fnEnables := enables
    attnEnables := w.extractLsb' 4 4 &&& d.own
    running := (d.running &&& ~~~stopped) ||| enables ||| convert
    requested := (d.requested &&& ~~~stopped) ||| convert
    results := Vector.ofFn fun f =>
      if enables.getLsbD f && !d.fnEnables.getLsbD f then [] else d.results[f]
    resetDone := d.resetDone && !w.getLsbD 12 }
  if w.getLsbD 13 then d.reset else d1

/-- The ACK to a READ, the ACK to a WRITE and the NAK, each with its check (R115). -/
def ackRead (v : BitVec 16) : List Bool := withCheck (ackBits ++ bitsMSB v)
def ackWrite : List Bool := withCheck ackBits
def nak : List Bool := withCheck nakBits

/-- What the station does with the bits of a frame, and the response it sends, if any (R120).
DESIGN CHOICE: operation 3 draws nothing (log entry 42). -/
def answer (d : StationDevice) (bits : List Bool) : StationDevice × Option (List Bool) :=
  let address := natOfBits (bits.take 4)
  let op := natOfBits ((bits.drop 4).take 2)
  let register := natOfBits ((bits.drop 6).take 6)
  let fields := bits.take (if op = opWrite.toNat then 28 else 12)
  if bits ≠ withCheck fields then (d, none)
  else if op = opBroadcast.toNat then (if address = 0 then d.reset else d, none)
  else if address ≠ d.address then (d, none)
  else if op = opRead.toNat then
    match d.readValue register with
    | some v => (d.afterRead register, some (ackRead v))
    | none => (d, some nak)
  else if op = opWrite.toNat then
    if register = regControl then
      (d.control (BitVec.ofNat 16 (natOfBits (fields.drop 12))), some ackWrite)
    else (d, some nak)
  else (d, none)

/-! ## A frame part way (R125) -/

/-- A start mark begins a frame of `length` bits, which the station sends or receives. -/
def beginFrame (d : StationDevice) (sending : Bool) (length : Nat) : StationDevice :=
  { d with frame := some { sending := sending, expected := length, beyond := 0, datLow := false } }

/-- The station drives a bit of the response it sends. -/
def driveBit (d : StationDevice) (low : Bool) : StationDevice :=
  { d with frame := d.frame.map fun f => { f with datLow := f.sending && low } }

/-- The station holds DB_DAT low: only in a frame that it sends. -/
def holdsDat (d : StationDevice) : Bool :=
  match d.frame with
  | some f => f.datLow
  | none => false

/-- Pulses beyond the expected length, with no start mark among them, at which a frame is abandoned. -/
def overrunLimit : Nat := 16

/-- A clock pulse on DB_CLK, with a start mark on DB_DAT or without. Within the expected length it is a
bit of the frame. Beyond it, a start mark starts the count of pulses again, and the sixteenth pulse
without one makes the station abandon the frame. DESIGN CHOICE: the pulse of the last expected bit does not
finish the frame, which stays as last driven; finishing it is `leaveFrame` (R125, R127, log entry 40).
DESIGN CHOICE: a start mark beyond the expected length keeps the frame too, and its level; the frame that the
mark opens is `beginFrame` (log entry 44). -/
def pulse (d : StationDevice) (startMark : Bool) : StationDevice :=
  match d.frame with
  | none => d
  | some f =>
    if 0 < f.expected then { d with frame := some { f with expected := f.expected - 1 } }
    else if startMark then { d with frame := some { f with beyond := 0 } }
    else if overrunLimit ≤ f.beyond + 1 then d.leaveFrame
    else { d with frame := some { f with beyond := f.beyond + 1 } }

/-- DB_CLK has stayed at its idle level for so many microseconds: from 1 ms on a frame in progress is
abandoned. -/
def clockIdle (d : StationDevice) (microseconds : Nat) : StationDevice :=
  if 1000 ≤ microseconds then d.leaveFrame else d

/-- The release sequence as a station sees it: sixteen pulses without a start mark, then 1 ms of idle
clock (R127). -/
def releaseSequence (d : StationDevice) : StationDevice :=
  ((List.range 16).foldl (fun e _ => e.pulse false) d).clockIdle 1000

/-- The pass in progress of a function completes, with a result for every point of the function; an
enabled function goes on with its next pass, and any other falls idle. A function whose conversion is
stopped or idle has no pass that could end, and nothing changes (R122 to R124). -/
def passEnds (d : StationDevice) (fn : Nat) (result : Nat → Count × Quality) : StationDevice :=
  if d.running.getLsbD fn then
    { d with
      results := d.results.setIfInBounds fn ((List.range d.pts).map result)
      flags :=
        if d.attnEnables.getLsbD fn || d.requested.getLsbD fn then setBit d.flags fn else d.flags
      requested := clearBit d.requested fn
      running := if d.fnEnables.getLsbD fn then d.running else clearBit d.running fn }
  else d

end StationDevice

end Sys2Proof.Machine
end

