-- ==== Sys2Proof/Safety.lean ====
section
/-! DEFINITION. What a safe part keeps: the laws that hold at reset and that every command keeps, and
the words the statements use: a request that is accepted, and the two ways its take ends. -/

namespace Sys2Proof.Machine

/-! ## The laws -/

/-- The backlog holds at most one entry for each source, and nothing at all while the event unit may
post (R31, R32, R34). -/
structure State.BacklogLaw (s : State) : Prop where
  oneEach : (s.evt.backlog.map Entry.source).Nodup
  drained : s.canPost = true → s.evt.backlog = []

/-- The trip unit is consistent: a latch that is not CLEAR has a cause, whose count is 1 to 255; in
REARM_WAIT there is a rearm time; the fault start is present exactly while the line part of the link
state is FAULTED (R49, R50, R53, R58). -/
structure State.TripLaw (s : State) : Prop where
  caused : s.trip.latch ≠ .clear → s.trip.cause.isSome = true
  counted : ∀ c, s.trip.cause = some c → 1 ≤ c.count ∧ c.count ≤ 255
  rearmed : s.trip.latch = .rearmWait → s.trip.rearmTime.isSome = true
  faultTimed : s.trip.faultStart.isSome = s.mon.lineFaulted

/-- A channel record is consistent (01, tables 1.1 and 1.2; R5 to R9). -/
structure Channel.Lawful (c : Channel) : Prop where
  unboundIff : c.binding = none ↔ c.condition = .unbound
  blank : c.binding = none → c.last = none ∧ c.pendingSince = none ∧ c.peaks = none
  reasonIff : c.reason.isSome = c.condition.hasReason
  pendingTimed : c.condition = .pending → c.pendingSince.isSome = true
  read : c.condition.judged = true ∨ c.condition = .sensorFault → c.last.isSome = true
  placed : ∀ b, c.binding = some b → b.loc.inRange = true
  limited : ∀ b, c.binding = some b → b.limits.valid b.format = true
  peaksOrdered : ∀ b p, c.binding = some b → c.peaks = some p →
    b.format.value p.min ≤ b.format.value p.max

/-- Every channel record is consistent, and no point is bound to two channels (R2, R18). -/
structure State.ChannelLaw (s : State) : Prop where
  each : ∀ n, (s.chan n).Lawful
  onePoint : ∀ n m, n < 128 → m < 128 → (s.chan n).bound = true →
    (s.chan n).loc = (s.chan m).loc → n = m

/-- A bound channel is UNREACHABLE exactly when its station is SILENT, ABSENT or REJECTED, or is ADOPTED
with an identity that lacks the channel's function or point (01, the close of section 1.9). -/
def State.ReachLaw (s : State) : Prop :=
  ∀ n b, (s.chan n).binding = some b →
    let r := s.stn b.loc.station
    ((s.chan n).condition = .unreachable ↔
      r.state = .silent ∨ r.state = .absent ∨ r.state = .rejected
        ∨ (r.state = .adopted ∧ r.hasPoint b.loc.fn b.loc.point = false))

/-- A station record is consistent: reasons, the reprobe time, the miss count and the flags fit its
state (R63, R64, R77, R79, R85); the shape of an ADOPTED station is its fingerprint's (R69, R71, R74),
and a station REJECTED CHANGED has an identity to accept (R69, R75). -/
structure Station.Lawful (r : Station) : Prop where
  silentReason : r.state = .silent → r.reason = some .missed ∨ r.reason = some .linkFault
  rejectedReason : r.state = .rejected → r.reason = some .unsupported ∨ r.reason = some .malformed
    ∨ r.reason = some .changed ∨ r.reason = some .protocol
  otherReason : r.state ≠ .silent → r.state ≠ .rejected → r.reason = none
  reprobed : r.reprobeAt.isSome = (r.state == .silent)
  missed : r.missCount < 3
  flagged : r.state ≠ .adopted → r.owed = 0 ∧ r.raisedAgain = 0
  adoptedKnown : r.state = .adopted → ∃ fp, r.fingerprint = some fp ∧ r.shape = some fp.shape
  changedKnown : r.state = .rejected → r.reason = some .changed → r.identity.isSome = true

/-- The station has what a probe reads before a step: its class and revision before step 2, its whole
identity before steps 3 and 4 (R68 to R71). -/
def Station.readBefore (r : Station) : ProbeStep → Prop
  | .id0 => True
  | .id1 => r.classRev.isSome = true
  | .control | .status => r.identity.isSome = true

/-- The probe in progress of a walk has made the steps before its next one (R67). -/
def State.Walked (s : State) (w : ProbeWalk) : Prop :=
  ∀ p, w.probe = some p → (s.stn p.address).readBefore p.step

/-- A probe makes its steps in their order, whichever activity makes it: the transaction on the bus, and
each probe in progress, come after the reads of the steps before them (R67 to R71). -/
structure State.ProbeLaw (s : State) : Prop where
  onBus : ∀ x step p, s.bus.txn = some x → x.purpose = .probeStep step p →
    (s.stn x.address).readBefore step
  enumerating : ∀ w, s.mon.enumeration = some w → s.Walked w
  recovering : ∀ r w, s.mon.recovery = some r → r.stage = .probing w → s.Walked w
  starting : ∀ sent p, s.mon.guardStage = some (.startup sent p) → s.Walked { last := 0, probe := p }
  reprobing : ∀ w, s.mon.guardReprobe = some w → s.Walked w
  sweeping : ∀ w p, s.sched.sweep = some w → w.position = .probing p →
    (s.stn p.address).readBefore p.step
  rescanning : ∀ j ∈ s.sched.jobs, ∀ set w, j.work = .rescan set w → s.Walked w

/-- Every station record is consistent, and every probe in progress is in order. -/
structure State.StationLaw (s : State) : Prop where
  each : ∀ a, (s.stn a).Lawful
  probes : s.ProbeLaw

/-- The monitor controller's work fits its state, and so do the sweep timer, the sweep and the
attention pass (R93, R109, R110, R130, R132 to R144). -/
structure State.MonitorLaw (s : State) : Prop where
  guarding : s.mon.guardActive = true ↔ s.mon.state = .guarding
  staged : s.mon.guardStage.isSome = true ↔ s.mon.state = .guarding
  enumerating : s.mon.enumeration.isSome = true ↔ s.mon.state = .enumerating
  recovering : s.mon.recovery.isSome = true ↔
    s.mon.state = .recovering ∨ s.mon.guardStage = some .lineRecovery
  polling : s.mon.guardPoll.isSome = true → s.mon.guardStage = some .watching
  reprobing : s.mon.guardReprobe.isSome = true → s.mon.guardStage = some .watching
  timed : s.sched.timer.isSome = true ↔ s.mon.state = .enumerating ∨ s.mon.state = .monitoring
  sweeping : s.sched.sweep.isSome = true → s.sched.timer.isSome = true
  passing : s.sched.pass.isSome = true → s.mon.state = .monitoring

/-- Monitoring is never done over a faulted line: recovery comes with a fault, and monitoring with a
complete roster and a line that is UP (R136, R139 to R144). -/
structure State.LinkLaw (s : State) : Prop where
  monitor : s.MonitorLaw
  faulted : s.mon.recovery.isSome = true → s.mon.lineFaulted = true
  upMonitoring : s.mon.state = .monitoring → s.mon.lineFaulted = false ∧ s.mon.rosterComplete = true
  upStopped : s.mon.state = .stopped → s.mon.rosterComplete = true → s.mon.lineFaulted = false
  incomplete : s.mon.state = .enumerating → s.mon.rosterComplete = false

/-- The positions and indices of the rings are slot numbers of rings whose sizes are those of a
checked description (R169, R175), and LOADING is exactly while the setup read is in flight (R168). -/
structure State.RingLaw (s : State) : Prop where
  described : s.ring.iface.inUse = true → ∃ d, s.ring.desc = some d ∧ exponentOk d.requestExp = true
    ∧ exponentOk d.completionExp = true ∧ exponentOk d.eventExp = true
  inRequestRing : s.ring.iface.inUse = true →
    s.ring.requestHead < s.ring.requestRingSize ∧ s.ring.requestTail < s.ring.requestRingSize
  inCompletionRing : s.ring.iface.inUse = true →
    s.ring.completionHead < s.ring.completionRingSize
      ∧ s.ring.completionTail < s.ring.completionRingSize
  inEventRing : s.ring.iface.inUse = true →
    s.ring.eventHead < s.ring.eventRingSize ∧ s.ring.eventTail < s.ring.eventRingSize
  loading : s.ring.iface = .loading ↔ s.flightKind = some .setupRead

/-- The job in a slot is a link job. -/
def Job.isLink (j : Job) : Bool :=
  match j.work with
  | .link _ => true
  | .dump _ | .sync _ => false

/-- The job in a slot is a NEXT_SWEEP dump. -/
def Job.isNextSweep (j : Job) : Bool :=
  match j.work with
  | .dump d => d.nextSweep
  | .link _ | .sync _ => false

/-- The take orders of the jobs that the job in a slot waits for: those of a SYNC's set (R156). -/
def Job.waitsFor (j : Job) : List Nat :=
  match j.work with
  | .sync ws => ws
  | .link _ | .dump _ => []

/-- The job slots, the link-job queue and the credit agree: slots in take order, at most four, at most
one of them a NEXT_SWEEP dump; the queue holds exactly the link jobs of the slots; only a NEXT_SWEEP
dump waits for a sweep; a SYNC waits for earlier jobs alone; taken-not-completed counts the jobs that
are not abandoned; outside LIVE and DRAINING every job is abandoned; and the completion ring has room
for every completion still owed (R148, R156, R157, R158, R160, R165). -/
structure State.JobLaw (s : State) : Prop where
  ring : s.RingLaw
  rising : (s.req.jobs.map Job.order).Pairwise (· < ·)
  taken : ∀ j ∈ s.req.jobs, j.order ≤ s.req.takeOrder
  four : s.req.jobs.length ≤ 4
  oneNextSweep : (s.req.jobs.filter Job.isNextSweep).length ≤ 1
  waiting : ∀ j ∈ s.req.jobs, j.waitingDump.isSome = true → j.isNextSweep = true
  waitsForEarlier : ∀ j ∈ s.req.jobs, ∀ w ∈ j.waitsFor, w < j.order
  queued : s.sched.jobs.map (fun j => (j.order, j.abandoned))
    = (s.req.jobs.filter Job.isLink).map fun j => (j.order, j.abandoned)
  counted : s.req.taken = (s.req.jobs.filter fun j => !j.abandoned).length
  outside : s.ring.iface.inUse = false → ∀ j ∈ s.req.jobs, j.abandoned = true
  onlyLink : ∀ j ∈ s.req.jobs, j.abandoned = true → j.isLink = true
  room : s.ring.iface.inUse = true →
    s.req.taken + s.ring.completionsUnread ≤ s.ring.completionRingSize - 1

/-! ## Words for statements -/

/-- The staged request is `r`, of kind `k`, the take is possible, and checks 2 to 4 pass (R147 to
R150). -/
structure State.Accepts (s : State) (r : Request) (k : RequestKind) : Prop where
  staged : s.req.staged.map Staged.record = some r
  kind : Request.kind r = some k
  taken : s.canTake r = true
  fields : Request.fieldsOk r k = true
  permitted : Request.permitted r k s.mon.state = true
  channel : Request.channelOk r k = true

/-- The command answers the next state `t`. -/
def Runs (c : Instr) (s t : State) : Prop := exec c s = .next t

/-- The command that takes a request of a kind. -/
def RequestKind.command : RequestKind → Instr
  | .nop => .nop
  | .sync => .sync
  | .configure => .configure
  | .start => .start
  | .stop => .stop
  | .defineChannel => .defineChannel
  | .retireChannel => .retireChannel
  | .setLimits => .setLimits
  | .readChannel => .readChannel
  | .freshRead => .freshRead
  | .rescan => .rescan
  | .acceptStation => .acceptStation
  | .dump => .dump
  | .rearmTrip => .rearmTrip
  | .forceTrip => .forceTrip

/-- From `s` to `t` the staged request is taken (R147) and completed with `c` (R152): the slot at the
completion tail is claimed with the lap value there, the record carries the request head after the
take, taken-not-completed is as before. Of the ring engine, only the posted events may change besides;
of the request engine, nothing. -/
structure State.Answered (s t : State) (c : Completion) : Prop where
  request : t.req = { s.req with staged := none, takeOrder := s.req.takeOrder + 1 }
  head : t.ring.requestHead = (s.ring.requestHead + 1) % s.ring.requestRingSize
  claimed : t.ring.completionWrites = s.ring.completionWrites ++
    [{ slot := s.ring.completionTail, lap := s.ring.completionLap,
       record := { c with head := BitVec.ofNat 16 t.ring.requestHead } }]
  tail : t.ring.completionTail = (s.ring.completionTail + 1) % s.ring.completionRingSize
  lap : t.ring.completionLap
    = if t.ring.completionTail = 0 then !s.ring.completionLap else s.ring.completionLap
  rest : t.ring = { s.ring with
    requestHead := t.ring.requestHead, completionWrites := t.ring.completionWrites
    completionTail := t.ring.completionTail, completionLap := t.ring.completionLap
    eventWrites := t.ring.eventWrites, eventTail := t.ring.eventTail
    eventLap := t.ring.eventLap }

/-- From `s` to `t` the staged request is taken (R147) and the job `j` is placed in a free slot
(R150, R157); nothing is completed. -/
structure State.Placed (s t : State) (j : Job) : Prop where
  request : t.req = { s.req with
    staged := none, taken := s.req.taken + 1, takeOrder := s.req.takeOrder + 1
    jobs := s.req.jobs ++ [j], dumpQueue := t.req.dumpQueue }
  ring : t.ring = { s.ring with
    requestHead := (s.ring.requestHead + 1) % s.ring.requestRingSize }

/-- `t` holds the same backlog, event counters and posted events as `x`. -/
structure State.SameEvents (x t : State) : Prop where
  unit : t.evt = x.evt
  writes : t.ring.eventWrites = x.ring.eventWrites
  tail : t.ring.eventTail = x.ring.eventTail
  lap : t.ring.eventLap = x.ring.eventLap

/-- Between `s` and `t` exactly these notices reached the event unit, in this order (R28, R32). -/
def State.Reported (s t : State) (ns : List Notice) : Prop :=
  State.SameEvents (ns.foldl State.notify s) t

end Sys2Proof.Machine

namespace Sys2Proof

/-- A command that is one of the three resets (R185, R186). -/
def Instr.isReset (c : Instr) : Bool :=
  match c with
  | .powerOnReset | .pcieReset | .controlReset _ => true
  | _ => false

end Sys2Proof
end

