-- ==== Sys2Proof/Certificates/Slice0/Obligations.lean ====
section
/-! DEFINITION. The statements for the provers. Each names in its docstring the rules of spec/ it
formalises; a clause that rests on a choice of the model names its log entry. -/

open Sys2Proof Sys2Proof.Machine

/-! ## The queue of commands -/

/-- The command at the front of the queue is run with the queue's rest; on an empty queue the part
idles (the model's own queue, log entry 3). -/
def Obligations.StepTakesTheFrontCommand : Prop :=
  (∀ (c : Instr) (rest : List Instr) (s : State), s.pending = c :: rest →
    step s = exec c { s with pending := rest }) ∧
  ∀ s : State, s.pending = [] → step s = .next s

/-- Every command answers a next state and leaves the queue alone: no command faults or is refused.
-/
def Obligations.EveryCommandCompletes : Prop :=
  ∀ (c : Instr) (s : State), ∃ t : State, Runs c s t ∧ t.pending = s.pending

/-! ## Resets -/

/-- R62: a power-on reset completes; every item of the trip unit takes its power-on value, TRIP_OUT
is released, no notice is produced, and the part is otherwise as after reset, but for the levels of
the wires and the PCIe port, of which nothing is said here. From then on the part is in GUARD, and
a hot guard reading or the loss of station 1 trips it. -/
def Obligations.PowerOnResetsTheTrip : Prop :=
  ∀ s : State, ∃ t : State, Runs .powerOnReset s t
    ∧ t = { State.reset with
        pending := s.pending
        bus := { DropBus.reset with datLow := t.bus.datLow, attnLow := t.bus.attnLow }
        pcie := t.pcie }
    ∧ t.trip =
      { latch := .clear, cause := none, rearmTime := none, marks := 0, guardQualified := false,
        faultStart := none, linkCauseRaised := false }
    ∧ t.tripOut = false
    ∧ t.evt.backlog = [] ∧ t.ring.eventWrites = []
    ∧ t.mon.state = .guarding ∧ t.mon.guardActive = true
    ∧ (∀ v : Count, 1760 ≤ v.toInt → (t.guardReading v true).trip.latch = .tripped)
    ∧ t.guardLost.trip.latch = .tripped

/-- R61: a controller reset, by a CONTROL write with RESET or by the PCIe port, completes and keeps
the latch, the cause record and the rearm time, and with them TRIP_OUT; it clears the marks and the
guard qualification, empties the backlog, unbinds every channel and produces no notice; monitor
time is kept, and the part is otherwise as after reset, but for the levels of the wires and the
PCIe port, of which nothing is said here. After it, in REARM_WAIT, the first VALID guard reading
below 1760 releases the latch, or the end of guard does; in TRIPPED neither does. -/
def Obligations.ControllerResetKeepsTheTrip : Prop :=
  ∀ (s : State) (c : Instr),
    (c = .pcieReset ∨ ∃ w : BitVec 32, c = .controlReset w ∧ w.getLsbD 1 = true) →
    ∃ t : State, Runs c s t
    ∧ t = { State.reset with
        pending := s.pending
        trip := t.trip
        mon := { Monitor.reset with time := s.mon.time }
        bus := { DropBus.reset with datLow := t.bus.datLow, attnLow := t.bus.attnLow }
        pcie := t.pcie }
    ∧ t.trip =
      { latch := s.trip.latch, cause := s.trip.cause, rearmTime := s.trip.rearmTime, marks := 0,
        guardQualified := false, faultStart := none, linkCauseRaised := false }
    ∧ t.tripOut = s.tripOut
    ∧ t.evt.backlog = [] ∧ t.ring.eventWrites = []
    ∧ t.mon.state = .guarding ∧ t.mon.lineFaulted = false
    ∧ (∀ n, (t.chan n).binding = none)
    ∧ (s.trip.latch = .rearmWait →
        (∀ v : Count, v.toInt < 1760 → (t.guardReading v true).trip.latch = .clear)
        ∧ t.endGuard.trip.latch = .clear)
    ∧ (s.trip.latch = .tripped →
        (∀ v : Count, (t.guardReading v true).trip.latch = .tripped)
        ∧ t.endGuard.trip.latch = .tripped)

/-- The state after reset meets every law. -/
def Obligations.ResetMeetsEveryLaw : Prop :=
  State.reset.BacklogLaw ∧ State.reset.TripLaw ∧ State.reset.ChannelLaw ∧ State.reset.ReachLaw ∧ State.reset.StationLaw
    ∧ State.reset.LinkLaw ∧ State.reset.JobLaw

/-! ## Laws that every step keeps -/

/-- R31, R32, R34: at most one entry for each source, and none while the event unit may post. -/
def Obligations.EveryStepKeepsTheBacklogLaw : Prop :=
  ∀ s t : State, s.BacklogLaw → step s = .next t → t.BacklogLaw

/-- R49, R53, R58: cause record, rearm time and link fault start fit the latch and the link. -/
def Obligations.EveryStepKeepsTheTripLaw : Prop :=
  ∀ s t : State, s.TripLaw → step s = .next t → t.TripLaw

/-- R2, R5, R6, R9 and tables 1.1 and 1.2 of 01: every channel record is consistent, and no point
is bound twice. The law that closes section 1.9 of 01 is kept as well, from states whose station records
are consistent and whose probes are in order (EveryStepKeepsTheStationLaw): a bound channel is UNREACHABLE
exactly when its station is SILENT, ABSENT or REJECTED, or is ADOPTED with an identity that lacks the
channel's function or point. -/
def Obligations.EveryStepKeepsTheChannelLaw : Prop :=
  (∀ s t : State, s.ChannelLaw → step s = .next t → t.ChannelLaw)
  ∧ (∀ s t : State, s.StationLaw → s.ReachLaw → step s = .next t → t.ReachLaw)

/-- R63, R64, R77, R79, R85: every station record is consistent. R69, R71, R74, R75: the shape of an
ADOPTED station is its fingerprint's, and a station REJECTED CHANGED has an identity to accept. R67 to R71:
a probe makes its steps in their order, whichever activity makes it. -/
def Obligations.EveryStepKeepsTheStationLaw : Prop :=
  ∀ s t : State, s.StationLaw → step s = .next t → t.StationLaw

/-- R130 to R144: the monitor controller's work fits its state, and monitoring is never done over a
faulted line. -/
def Obligations.EveryStepKeepsTheLinkLaw : Prop :=
  ∀ s t : State, s.LinkLaw → step s = .next t → t.LinkLaw

/-- R148, R156, R157, R158, R165, R168, R169, R175: positions stay inside rings of checked sizes and
LOADING is exactly while the setup read is in flight; slots, link-job queue and completion credit
agree, and every completion still owed has room; at most one slot holds a NEXT_SWEEP dump, and a SYNC
waits for jobs taken before it alone. -/
def Obligations.EveryStepKeepsTheJobLaw : Prop :=
  ∀ s t : State, s.JobLaw → step s = .next t → t.JobLaw

/-! ## Rules over all commands -/

/-- R131: a tick completes and adds one to monitor time, and nothing else; a power-on reset returns
monitor time to 0; no other command changes it. -/
def Obligations.TimeMovesOnlyByTick : Prop :=
  (∀ s : State, Runs .monitorTimeTick s { s with mon := { s.mon with time := s.mon.time + 1 } })
  ∧ ∀ (c : Instr) (s t : State), c.wellFormed = true → Runs c s t →
      t.mon.time = if c = .monitorTimeTick then s.mon.time + 1
        else if c = .powerOnReset then 0 else s.mon.time

/-- R48, R49: a TRIPPED latch is left only by REARM_TRIP and by a power-on reset; every other
command leaves it TRIPPED, with the first cause, its source, its time and the rearm time as they
were. -/
def Obligations.TrippedHolds : Prop :=
  ∀ (c : Instr) (s t : State), c ≠ .powerOnReset → c ≠ .rearmTrip → s.trip.latch = .tripped →
    Runs c s t →
    t.trip.latch = .tripped
    ∧ t.trip.cause.map (fun x => (x.kind, x.source, x.time))
      = s.trip.cause.map (fun x => (x.kind, x.source, x.time))
    ∧ t.trip.rearmTime = s.trip.rearmTime

/-- R48, R60: a latch that is not CLEAR becomes CLEAR only when the link is not faulted, guard is
not active or is qualified, and every bound member is qualified. START_CHECK_TIMEOUT is left out:
its one command may end an enumeration, release the latch, and then fault the link. -/
def Obligations.ReleaseOnlyWhenQualified : Prop :=
  ∀ (c : Instr) (s t : State), c ≠ .powerOnReset → (∀ b, c ≠ .startCheckTimeout b) →
    s.trip.latch ≠ .clear → Runs c s t → t.trip.latch = .clear →
    t.mon.lineFaulted = false
    ∧ (t.mon.guardActive = true → t.trip.guardQualified = true)
    ∧ ∀ n < 128, (t.chan n).isMember = true → t.trip.marks.getLsbD n = true
        ∧ ((t.chan n).condition = .normal ∨ (t.chan n).condition = .lowAlarm
          ∨ (t.chan n).condition = .highAlarm)

/-- R3, R1: a reset returns a channel's generation to 0; any other command leaves it as it is, but for
a DEFINE_CHANNEL of that channel, which moves it by one, from not bound to bound. -/
def Obligations.GenerationMovesOnlyAtDefine : Prop :=
  ∀ (c : Instr) (s t : State) (n : Nat), c.wellFormed = true → Runs c s t →
    (c.isReset = false ∧ (t.chan n).generation = (s.chan n).generation)
    ∨ (c.isReset = true ∧ (t.chan n).generation = 0)
    ∨ (c = .defineChannel ∧ (s.chan n).bound = false ∧ (t.chan n).bound = true
        ∧ (t.chan n).generation = (s.chan n).generation + 1)

/-! ## The condition unit -/

/-- R10, R11, R12: leaving CRITICAL takes strict comparisons with hysteresis against both critical
limits, and lands by the alarm thresholds with hysteresis; entering is at or beyond a critical
limit. Where no critical limit is reached, an alarm is held until its limit is absent or the value
is back by the hysteresis, and it leaves for the other alarm without hysteresis; every other
condition is judged without hysteresis. Thresholds saturate at the ends of the format (R4). -/
def Obligations.ConditionIsJudgedByTheLimits : Prop :=
  (∀ (f : Format) (l : Limits) (v : Int),
    let h : Int := l.hysteresis.toNat
    let less : Count → Int := fun x => max f.least (f.value x - h)
    let plus : Count → Int := fun x => min f.greatest (f.value x + h)
    let inside := (∀ x, l.criticalHigh = some x → v < less x)
      ∧ (∀ x, l.criticalLow = some x → plus x < v)
    let high := ∃ x, l.high = some x ∧ less x < v
    let low := ∃ x, l.low = some x ∧ v < plus x
    (¬ inside → judge f l .critical v = .critical)
    ∧ (inside → high → judge f l .critical v = .highAlarm)
    ∧ (inside → ¬ high → low → judge f l .critical v = .lowAlarm)
    ∧ (inside → ¬ high → ¬ low → judge f l .critical v = .normal)
    ∧ ∀ c : Condition, c ≠ .critical →
        (judge f l c v = .critical ↔
          (∃ x, l.criticalHigh = some x ∧ f.value x ≤ v)
          ∨ (∃ x, l.criticalLow = some x ∧ v ≤ f.value x)))
  ∧ (∀ (f : Format) (l : Limits) (v : Int),
    let h : Int := l.hysteresis.toNat
    let above := ∃ x, l.high = some x ∧ f.value x < v
    let below := ∃ x, l.low = some x ∧ v < f.value x
    let heldHigh := ∃ x, l.high = some x ∧ max f.least (f.value x - h) < v
    let heldLow := ∃ x, l.low = some x ∧ v < min f.greatest (f.value x + h)
    (¬ (∃ x, l.criticalHigh = some x ∧ f.value x ≤ v)) →
    (¬ (∃ x, l.criticalLow = some x ∧ v ≤ f.value x)) →
    (heldHigh → judge f l .highAlarm v = .highAlarm)
    ∧ (¬ heldHigh → below → judge f l .highAlarm v = .lowAlarm)
    ∧ (¬ heldHigh → ¬ below → judge f l .highAlarm v = .normal)
    ∧ (heldLow → judge f l .lowAlarm v = .lowAlarm)
    ∧ (¬ heldLow → above → judge f l .lowAlarm v = .highAlarm)
    ∧ (¬ heldLow → ¬ above → judge f l .lowAlarm v = .normal)
    ∧ ∀ c ∈ [Condition.pending, .normal, .sensorFault, .stale],
        (above → judge f l c v = .highAlarm)
        ∧ (¬ above → below → judge f l c v = .lowAlarm)
        ∧ (¬ above → ¬ below → judge f l c v = .normal))

/-- R7, R8, R9, R13: a reading is dropped without effect, or it becomes the last reading and
decides the condition, the reason and the peaks of its channel alone; the notice is handed first,
then the member report. -/
def Obligations.ReadingIsTakenOrDropped : Prop :=
  ∀ (s : State) (n : Nat) (g : BitVec 8) (v : Count) (q : Quality) (fault : Bool),
    let c := s.chan n
    let t := s.reading n g v q fault
    (s.mon.state ≠ .monitoring ∨ c.binding = none ∨ c.generation ≠ g ∨ c.condition = .unreachable →
      t = s)
    ∧ ∀ b : Binding, s.mon.state = .monitoring → c.binding = some b → c.generation = g →
        c.condition ≠ .unreachable →
        let good := fault = false ∧ q = .valid
        let after := t.chan n
        (good → after.condition = judge b.format b.limits c.condition (b.format.value v)
          ∧ after.reason = none
          ∧ ∃ p : Peaks, after.peaks = some p
            ∧ b.format.value p.min
              = (c.peaks.elim (b.format.value v) fun o => min (b.format.value o.min) (b.format.value v))
            ∧ b.format.value p.max
              = (c.peaks.elim (b.format.value v) fun o => max (b.format.value o.max) (b.format.value v)))
        ∧ (¬ good → after.condition = .sensorFault ∧ after.peaks = c.peaks
          ∧ after.reason = some (if fault then Reason.stationFault else match q with
            | .openInput => .openInput
            | .range => .range
            | .convertErr => .convertErr
            | .valid => .stationFault))
        ∧ after = { c with
            last := some { value := v, quality := q, time := s.mon.time }
            condition := after.condition, reason := after.reason, peaks := after.peaks }
        ∧ (∀ m, m ≠ n → t.chan m = s.chan m)
        ∧ (let x := s.setChan n after
           let y := if c.condition ≠ after.condition ∧ ¬ (c.condition = .pending ∧ after.condition = .normal)
             then x.notify (x.channelNotice n c.condition after) else x
           let z := if b.member then y.memberReport n c.condition after.condition .evaluation else y
           t.trip = z.trip ∧ State.SameEvents z t)
        ∧ t = { s with channels := t.channels, evt := t.evt, trip := t.trip
                       ring := { s.ring with
                         eventWrites := t.ring.eventWrites, eventTail := t.ring.eventTail
                         eventLap := t.ring.eventLap } }

/-- R23, R24: a station that becomes SILENT, ABSENT or REJECTED makes its bound channels
UNREACHABLE; one that becomes ADOPTED makes them PENDING, or UNREACHABLE with NO_POINT; channels of
other stations are untouched. R14, R15, R52, R59: the channels are taken in ascending order; each whose
condition becomes UNREACHABLE hands its notice, and then each trip member whose condition changed, to
UNREACHABLE or to PENDING, hands its member report, from which the trip unit takes its causes and clears
its marks. Where none of the station's channels is a trip member, exactly the notices of R14 are handed, in
channel order, and the trip unit stands. -/
def Obligations.StationChangeReachesItsChannels : Prop :=
  ∀ (s : State) (a : Nat) (st : StationState),
    let t := s.channelsOfStation a st
    let changed : Nat → Channel := fun n => match (s.chan n).binding with
      | none => s.chan n
      | some b =>
        if b.loc.station ≠ a then s.chan n
        else match st with
          | .unknown => s.chan n
          | .silent => { s.chan n with condition := .unreachable, reason := some .silent }
          | .absent => { s.chan n with condition := .unreachable, reason := some .absent }
          | .rejected => { s.chan n with condition := .unreachable, reason := some .rejected }
          | .adopted =>
            if (s.stn a).hasPoint b.loc.fn b.loc.point then
              { s.chan n with
                condition := .pending, reason := none, pendingSince := some s.mon.time }
            else { s.chan n with condition := .unreachable, reason := some .noPoint }
    let handOn : State → Nat → State := fun x n =>
      let before := s.chan n
      let after := changed n
      let x1 := x.setChan n after
      let x2 := if after.condition = .unreachable ∧ before.condition ≠ .unreachable then
          x1.notify (s.channelNotice n before.condition after)
        else x1
      if before.isMember = true ∧ before.condition ≠ after.condition then
        x2.memberReport n before.condition after.condition .change
      else x2
    (∀ n < 128, t.chan n = changed n)
    ∧ t.trip = ((List.range 128).foldl handOn s).trip
    ∧ State.SameEvents ((List.range 128).foldl handOn s) t
    ∧ ((∀ n < 128, (s.chan n).onStation a = true → (s.chan n).isMember = false) →
        t.trip = s.trip
        ∧ s.Reported t ((List.range 128).filterMap fun n =>
            if (changed n).condition = .unreachable ∧ (s.chan n).condition ≠ .unreachable then
              some (s.channelNotice n (s.chan n).condition (changed n))
            else none))
    ∧ t = { s with channels := t.channels, evt := t.evt, trip := t.trip
                   ring := { s.ring with
                     eventWrites := t.ring.eventWrites, eventTail := t.ring.eventTail
                     eventLap := t.ring.eventLap } }

/-! ## The event unit -/

/-- R29, R32 to R35: a notice is urgent when it is a channel's to CRITICAL (5) or of a channel whose
class is URGENT, a station's change to SILENT (3) or REJECTED (4), any of the trip, or the link's
LINK_FAULT, whose line part goes from UP to FAULTED; no other is. A notice is posted directly,
coalesced into its source's entry, or appended; after the last two the drain goes on. A posting takes the slot and the lap value at the event tail. The
drain posts entries from the head, in order, each while posting is allowed (the interface LIVE or
DRAINING and a slot of the event ring free), until the backlog is empty or posting is not allowed;
the rest stays in the backlog. -/
def Obligations.NoticesArriveAndDrain : Prop :=
  (∀ n : Notice, n.urgent = true ↔ match n.source with
    | .channel _ => n.after = 5 ∨ n.classUrgent = true
    | .station _ => (n.after = 3 ∨ n.after = 4) ∧ n.before ≠ n.after
    | .trip => True
    | .link => n.before.getLsbD 0 = false ∧ n.after.getLsbD 0 = true)
  ∧ (∀ (s : State) (m : Nat) (before : Condition) (c : Channel),
    let n := s.channelNotice m before c
    n.source = .channel m ∧ n.generation = c.generation
    ∧ n.before.toNat = before.code ∧ n.after.toNat = c.condition.code
    ∧ (n.after = 5 ↔ c.condition = .critical)
    ∧ (n.classUrgent = true ↔ ∃ b, c.binding = some b ∧ b.cls = .urgent))
  ∧ (∀ (s : State) (n : Notice),
    let fresh : Entry :=
      { source := n.source, generation := n.generation, before := n.before, after := n.after,
        detail := n.detail, urgent := n.urgent, count := 1, first := n.time, value := n.value,
        offset := 0 }
    let room := (s.ring.iface = .live ∨ s.ring.iface = .draining)
      ∧ s.ring.eventsUnread < s.ring.eventRingSize - 1
    let next := (s.ring.eventTail + 1) % s.ring.eventRingSize
    (s.evt.backlog = [] → room → s.notify n = { s with ring := { s.ring with
        eventWrites := s.ring.eventWrites ++
          [{ slot := s.ring.eventTail, lap := s.ring.eventLap, record := fresh }]
        eventTail := next
        eventLap := if next = 0 then !s.ring.eventLap else s.ring.eventLap } })
    ∧ ((∃ e ∈ s.evt.backlog, e.source = n.source) →
        s.notify n = State.drain { s with evt := { s.evt with
          coalesced := s.evt.coalesced + 1
          backlog := s.evt.backlog.map fun e =>
            if e.source = n.source then
              { e with
                after := n.after, detail := n.detail, value := n.value
                count := min (e.count + 1) 255, urgent := e.urgent || n.urgent
                offset := BitVec.ofNat 16 (min (n.time - e.first).toNat 65535) }
            else e } })
    ∧ (¬ (∃ e ∈ s.evt.backlog, e.source = n.source) → (s.evt.backlog ≠ [] ∨ ¬ room) →
        s.notify n = State.drain { s with evt := { s.evt with backlog := s.evt.backlog ++ [fresh] } }))
  ∧ (∀ (s : State) (e : Entry),
    let next := (s.ring.eventTail + 1) % s.ring.eventRingSize
    s.post e = { s with ring := { s.ring with
      eventWrites := s.ring.eventWrites ++
        [{ slot := s.ring.eventTail, lap := s.ring.eventLap, record := e }]
      eventTail := next
      eventLap := if next = 0 then !s.ring.eventLap else s.ring.eventLap } })
  ∧ (∀ s : State,
    let n := s.ring.eventRingSize
    let posted : Nat → State := fun i => (s.evt.backlog.take i).foldl State.post s
    let room : State → Prop := fun x => (x.ring.iface = .live ∨ x.ring.iface = .draining)
      ∧ (x.ring.eventTail + n - x.ring.eventHead) % n < n - 1
    ∃ k : Nat, k ≤ s.evt.backlog.length
      ∧ (∀ i < k, room (posted i))
      ∧ (k = s.evt.backlog.length ∨ ¬ room (posted k))
      ∧ s.drain = { posted k with evt := { s.evt with backlog := s.evt.backlog.drop k } })

/-! ## The trip unit -/

/-- R50, R51: what a cause does by the latch state it finds. -/
def Obligations.CauseActsByTheLatch : Prop :=
  ∀ (s : State) (k : CauseKind) (b : Byte),
    let t := s.raiseCause k b
    let tripped : Byte → Notice := fun before =>
      { source := .trip, generation := 0, before := before, after := 1, detail := byteOf k.code,
        value := b.setWidth 16, time := s.mon.time, classUrgent := false }
    let more : Option CauseRecord :=
      s.trip.cause.map fun x => { x with count := min (x.count + 1) 255 }
    (s.trip.latch = .clear →
      t.trip = { s.trip with latch := .tripped
                             cause := some { kind := k, source := b, time := s.mon.time, count := 1 } }
      ∧ s.Reported t [tripped 0])
    ∧ (s.trip.latch = .tripped →
        t.trip = { s.trip with cause := more } ∧ s.Reported t [])
    ∧ (s.trip.latch = .rearmWait →
        t.trip = { s.trip with
          latch := .tripped, cause := more, marks := 0, guardQualified := false }
        ∧ s.Reported t [tripped 2])
    ∧ t = { s with trip := t.trip, evt := t.evt, ring := { s.ring with
        eventWrites := t.ring.eventWrites, eventTail := t.ring.eventTail
        eventLap := t.ring.eventLap } }

/-- R52, R59, R60: a member report raises its cause, then updates the mark, and an evaluation or a
retirement makes the release test. The test acts only in REARM_WAIT: when the link is not faulted,
guard is not active or is qualified, and every bound member is qualified, the latch becomes CLEAR
and RELEASED is handed; else nothing changes. -/
def Obligations.MemberReportsAndTheReleaseTest : Prop :=
  (∀ (s : State) (n : Nat) (before after : Condition) (k : ReportKind), n < 128 →
    let good := after = .normal ∨ after = .lowAlarm ∨ after = .highAlarm
    let cause : Option CauseKind :=
      if k = .retirement ∨ before = after then none
      else if after = .critical then some .critical
      else if after = .stale ∨ after = .sensorFault then some .memberFault
      else if after = .unreachable ∧ s.mon.lineFaulted = false then some .memberFault
      else none
    let x := cause.elim s fun q => s.raiseCause q (byteOf n)
    let marks : BitVec 128 :=
      if k = .evaluation ∧ good then x.trip.marks ||| BitVec.twoPow 128 n
      else if k = .change ∧ good then x.trip.marks
      else x.trip.marks &&& ~~~(BitVec.twoPow 128 n)
    let y : State := { x with trip := { x.trip with marks := marks } }
    (k = .change → s.memberReport n before after k = y)
    ∧ (k ≠ .change → s.memberReport n before after k = y.releaseTest))
  ∧ (∀ s : State,
    let passes := s.mon.lineFaulted = false
      ∧ (s.mon.guardActive = true → s.trip.guardQualified = true)
      ∧ ∀ n < 128, ∀ b, (s.chan n).binding = some b → b.member = true →
          s.trip.marks.getLsbD n = true
          ∧ ((s.chan n).condition = .normal ∨ (s.chan n).condition = .lowAlarm
            ∨ (s.chan n).condition = .highAlarm)
    (¬ (s.trip.latch = .rearmWait ∧ passes) → s.releaseTest = s)
    ∧ (s.trip.latch = .rearmWait → passes → s.releaseTest
        = State.notify { s with trip := { s.trip with latch := .clear } }
          { source := .trip, generation := 0, before := 2, after := 0
            detail := byteOf (s.trip.cause.elim 0 fun c => c.kind.code)
            value := (s.trip.cause.elim 0 CauseRecord.source).setWidth 16
            time := s.mon.time, classUrgent := false }))

/-! ## The interrupt message and the plan -/

/-- R182, R183: raising sets causes and keeps the others; one message is sent when the set of
raised and enabled causes goes from empty to non-empty and the port can send it. A CONTROL write
without RESET replaces the enables, and a cause that it enables while no other enabled cause is set
sends one message; with the interface LIVE and ENABLE kept set it does nothing else. The count of
messages is the model's own observation (log entry 16). -/
def Obligations.InterruptMessageIsSentOnce : Prop :=
  (∀ (s : State) (c : Causes),
    let t := s.raise c
    let active : State → Prop := fun x =>
      (x.port.intCause.completion && x.port.intEnable.completion) = true
      ∨ (x.port.intCause.event && x.port.intEnable.event) = true
      ∨ (x.port.intCause.urgent && x.port.intEnable.urgent) = true
      ∨ (x.port.intCause.fault && x.port.intEnable.fault) = true
      ∨ (x.port.intCause.index && x.port.intEnable.index) = true
    let sends := active t ∧ ¬ active s ∧ s.pcie.messages = true ∧ s.pcie.linkUp = true
    t.port = { s.port with intCause :=
      { completion := s.port.intCause.completion || c.completion
        event := s.port.intCause.event || c.event
        urgent := s.port.intCause.urgent || c.urgent
        fault := s.port.intCause.fault || c.fault
        index := s.port.intCause.index || c.index } }
    ∧ (sends → t.pcie = { s.pcie with messagesSent := s.pcie.messagesSent + 1 })
    ∧ (¬ sends → t.pcie = s.pcie)
    ∧ t = { s with port := t.port, pcie := t.pcie })
  ∧ (∀ (s : State) (v : BitVec 32), v.getLsbD 1 = false → v.getLsbD 0 = true → s.ring.iface = .live →
    let enables : Causes :=
      { completion := v.getLsbD 8, event := v.getLsbD 9, urgent := v.getLsbD 10
        fault := v.getLsbD 11, index := v.getLsbD 12 }
    let active : Causes → Bool := fun e =>
      (s.port.intCause.completion && e.completion) || (s.port.intCause.event && e.event)
      || (s.port.intCause.urgent && e.urgent) || (s.port.intCause.fault && e.fault)
      || (s.port.intCause.index && e.index)
    let sends : Bool := active enables && !active s.port.intEnable && s.pcie.messages && s.pcie.linkUp
    Runs (.interruptEnablesWrite v) s { s with
      port := { s.port with enable := true, intEnable := enables }
      pcie := { s.pcie with
        messagesSent := s.pcie.messagesSent + (if sends = true then 1 else 0) } })

/-- R82: the enables of a derived plan. -/
def Obligations.PlanFollowsTheChannelTable : Prop :=
  ∀ (s : State) (a f : Nat), f < 4 →
    let here : Channel → Binding → Prop := fun c b =>
      c.binding = some b ∧ b.loc.station = a ∧ b.loc.fn = f
      ∧ ∃ sh, (s.stn a).shape = some sh ∧ b.loc.fn < sh.fns.toNat ∧ b.loc.point < sh.pts.toNat
    ((s.derivedPlan a).fns.getLsbD f = true ↔ ∃ n < 128, ∃ b, here (s.chan n) b)
    ∧ ((s.derivedPlan a).attn.getLsbD f = true ↔
        s.mon.params.attentionUse = true ∧ ∃ n < 128, ∃ b, here (s.chan n) b ∧ b.cls = .urgent)

/-! ## Frames of the Drop Bus -/

/-- R113 to R115 and 10.8: the bits of a request frame and of the three responses, each with its
check, an 8-bit CRC of initial value 0 and polynomial x⁸ + x² + x + 1. A response is judged by its
first bits alone: a NAK with a good check; to a READ, an ACK with 16 bits of data and a good check;
to a WRITE, an ACK with a good check. Everything else is CORRUPT: a failing check, a first field
that is neither ACK nor NAK, too few bits, the bits of a line held low. That the bits of a response
reach the block as one operand is the model's choice (log entry 9). -/
def Obligations.ResponsesAreJudgedAsSent : Prop :=
  (∀ v : BitVec 16, judgeResponse true (StationDevice.ackRead v) = .goodAck v)
  ∧ judgeResponse false StationDevice.ackWrite = .goodAck 0
  ∧ judgeResponse false StationDevice.nak = .goodNak
  ∧ (∀ rest : List Bool, judgeResponse true (StationDevice.nak ++ rest) = .goodNak)
  ∧ (∀ n : Nat, judgeResponse true (List.replicate n false) = .corrupt
      ∧ judgeResponse false (List.replicate n false) = .corrupt)
  ∧ (∀ bits : List Bool, bits.length < 12 →
      judgeResponse true bits = .corrupt ∧ judgeResponse false bits = .corrupt)
  ∧ (crc8 [] = 0 ∧ ∀ (bits : List Bool) (b : Bool),
      let r := crc8 bits
      crc8 (bits ++ [b]) = if r.getLsbD 7 = b then r <<< 1 else (r <<< 1) ^^^ 0x07)
  ∧ (let half : BitVec 16 → List Bool := fun v => (List.range 16).map fun i => v.getLsbD (15 - i)
    let checked : List Bool → List Bool := fun f =>
      f ++ (List.range 8).map fun i => (crc8 f).getLsbD (7 - i)
    (∀ v, StationDevice.ackRead v = checked ([true, false, true, false] ++ half v))
    ∧ StationDevice.ackWrite = checked [true, false, true, false]
    ∧ StationDevice.nak = checked [false, true, false, true]
    ∧ ∀ (address register : Nat) (data : Option (BitVec 16)),
        requestFrame address register data = checked
          ([address.testBit 3, address.testBit 2, address.testBit 1, address.testBit 0]
          ++ [false, data.isSome]
          ++ [register.testBit 5, register.testBit 4, register.testBit 3, register.testBit 2,
            register.testBit 1, register.testBit 0]
          ++ data.elim [] half))
  ∧ (∀ (isRead : Bool) (bits : List Bool),
    let ack : BitVec 16 → Prop := fun d =>
      if isRead = true then bits.take 28 = StationDevice.ackRead d
      else d = 0 ∧ bits.take 12 = StationDevice.ackWrite
    (judgeResponse isRead bits = .goodNak ↔ bits.take 12 = StationDevice.nak)
    ∧ (∀ d, judgeResponse isRead bits = .goodAck d ↔ ack d)
    ∧ (bits.take 12 ≠ StationDevice.nak → (∀ d, ¬ ack d) → judgeResponse isRead bits = .corrupt)
    ∧ (bits.take 4 ≠ [true, false, true, false] → bits.take 4 ≠ [false, true, false, true] →
        judgeResponse isRead bits = .corrupt)
    ∧ (isRead = true → bits.take 4 = [true, false, true, false] → bits.length < 28 →
        judgeResponse isRead bits = .corrupt))

/-! ## The setup block -/

/-- R169, with the fields of the setup block as 10.2 places them: the checks of the setup block, in
their order, and within each check the rings in the order request, completion, event and the windows
in ascending order, with the halt code, structure and index of the first that fails. -/
def Obligations.SetupChecksInOrder : Prop :=
  ∀ b : SetupBlock,
    let d := SetupBlock.description b
    let w : Nat → Window := SetupBlock.window b
    let sizeOk : Nat → Prop := fun e => 4 ≤ e ∧ e ≤ 12
    let baseOk : BitVec 64 → Prop := fun x => x.toNat % 64 = 0
    let sizes := sizeOk d.requestExp ∧ sizeOk d.completionExp ∧ sizeOk d.eventExp
    let aligned := baseOk d.requestBase ∧ baseOk d.completionBase ∧ baseOk d.eventBase
    let formed : Nat → Prop := fun i =>
      ((w i).permission.read = false ∧ (w i).permission.write = false)
      ∨ ((w i).base.toNat % 4096 = 0 ∧ (w i).length.toNat % 4096 = 0
        ∧ 4096 ≤ (w i).length.toNat ∧ (w i).length.toNat ≤ 4294967296
        ∧ (w i).base.toNat + (w i).length.toNat ≤ 2 ^ 64)
    let inside : Nat → Nat → Nat → Prop := fun i base size =>
      (w i).base.toNat ≤ base ∧ base + size ≤ (w i).base.toNat + (w i).length.toNat
    let requestIn := ∃ i < 4, (w i).permission.read = true
      ∧ inside i d.requestBase.toNat (32 * 2 ^ d.requestExp)
    let completionIn := ∃ i < 4, (w i).permission.write = true
      ∧ inside i d.completionBase.toNat (16 * 2 ^ d.completionExp)
    let eventIn := ∃ i < 4, (w i).permission.write = true
      ∧ inside i d.eventBase.toNat (16 * 2 ^ d.eventExp)
    let quad : Nat → BitVec 64 := fun offset => b.extractLsb' (8 * offset) 64
    let byte : Nat → BitVec 8 := fun offset => b.extractLsb' (8 * offset) 8
    (d.requestBase = quad 0x00 ∧ d.completionBase = quad 0x08 ∧ d.eventBase = quad 0x10
      ∧ d.requestExp = (byte 0x18).toNat ∧ d.completionExp = (byte 0x19).toNat
      ∧ d.eventExp = (byte 0x1A).toNat
      ∧ d.completionCount = (byte 0x1C).toNat ∧ d.completionDelay = (byte 0x1D).toNat
      ∧ d.eventCount = (byte 0x1E).toNat ∧ d.eventDelay = (byte 0x1F).toNat)
    ∧ (∀ i < 4, (w i).base = quad (0x20 + 24 * i) ∧ (w i).length = quad (0x28 + 24 * i)
      ∧ (w i).permission.read = (byte (0x30 + 24 * i)).getLsbD 0
      ∧ (w i).permission.write = (byte (0x30 + 24 * i)).getLsbD 1)
    ∧ (SetupBlock.check b = none ↔ sizes ∧ aligned ∧ (∀ i < 4, formed i) ∧ requestIn ∧ completionIn
      ∧ eventIn ∧ d.completionCount ≠ 0 ∧ d.eventCount ≠ 0)
    ∧ (¬ sizeOk d.requestExp → SetupBlock.check b = some ⟨.ringSize, .request, 0⟩)
    ∧ (sizeOk d.requestExp → ¬ sizeOk d.completionExp →
        SetupBlock.check b = some ⟨.ringSize, .completion, 0⟩)
    ∧ (sizeOk d.requestExp → sizeOk d.completionExp → ¬ sizeOk d.eventExp →
        SetupBlock.check b = some ⟨.ringSize, .event, 0⟩)
    ∧ (sizes → ¬ baseOk d.requestBase → SetupBlock.check b = some ⟨.ringAlign, .request, 0⟩)
    ∧ (sizes → baseOk d.requestBase → ¬ baseOk d.completionBase →
        SetupBlock.check b = some ⟨.ringAlign, .completion, 0⟩)
    ∧ (sizes → baseOk d.requestBase → baseOk d.completionBase → ¬ baseOk d.eventBase →
        SetupBlock.check b = some ⟨.ringAlign, .event, 0⟩)
    ∧ (∀ i < 4, sizes → aligned → (∀ j < i, formed j) → ¬ formed i →
        SetupBlock.check b = some ⟨.windowForm, .setup, i⟩)
    ∧ (sizes → aligned → (∀ i < 4, formed i) →
        (¬ requestIn → SetupBlock.check b = some ⟨.ringWindow, .request, 0⟩)
        ∧ (requestIn → ¬ completionIn → SetupBlock.check b = some ⟨.ringWindow, .completion, 0⟩)
        ∧ (requestIn → completionIn → ¬ eventIn →
            SetupBlock.check b = some ⟨.ringWindow, .event, 0⟩)
        ∧ (requestIn → completionIn → eventIn →
            (d.completionCount = 0 → SetupBlock.check b = some ⟨.moderation, .completion, 0⟩)
            ∧ (d.completionCount ≠ 0 → d.eventCount = 0 →
                SetupBlock.check b = some ⟨.moderation, .event, 0⟩)))

/-! ## The register port -/

/-- R167, R180, R181, R183, R185 and 10.7: the writes of INT_CAUSE and SETUP and the writes that
are ignored; what a read of each of the eight registers returns, unused bits 0, and that a read of
fewer bytes returns the bytes addressed, which lie in ascending order of their bits (log entry 33);
and the commands of the PCIe port. A message lost while the link was down is not sent again. That the
PCIe reset leaves bus mastering and messages disabled is read from the procedure of 9.11, as R185 says
only that they are reset, and that no reset moves the link is the model's choice (log entry 5). -/
def Obligations.RegisterPortReadsAndWrites : Prop :=
  (∀ (s : State) (v : BitVec 32),
    Runs (.intCauseWrite v) s { s with port := { s.port with intCause :=
      { completion := s.port.intCause.completion && !v.getLsbD 0
        event := s.port.intCause.event && !v.getLsbD 1
        urgent := s.port.intCause.urgent && !v.getLsbD 2
        fault := s.port.intCause.fault && !v.getLsbD 3
        index := s.port.intCause.index && !v.getLsbD 4 } } }
    ∧ (∃ t : State, Runs (.setupWrite v) s t
        ∧ (∀ i < 32, t.port.setup.getLsbD i = (decide (7 ≤ i) && v.getLsbD i))
        ∧ t = { s with port := { s.port with setup := t.port.setup } })
    ∧ ∀ offset width : Nat, offset < 32 →
        (width = 1 ∨ width = 2 ∨ width = 3 ∨ (width = 4 ∧ (offset = 4 ∨ offset = 28))) →
        Runs (.registerWriteIgnored offset width v) s s)
  ∧ (∀ s : State,
    (∀ i < 32, (s.readRegister 0x04).getLsbD i =
      if i < 3 then s.ring.iface.code.testBit i
      else if 4 ≤ i ∧ i < 7 then s.mon.state.code.testBit (i - 4)
      else if 8 ≤ i ∧ i < 10 then s.trip.latch.code.testBit (i - 8)
      else if i = 12 then !s.evt.backlog.isEmpty
      else if i = 13 then s.mon.guardActive
      else false)
    ∧ (s.readRegister 0x00).getLsbD 0 = s.port.enable
    ∧ (s.readRegister 0x00).getLsbD 1 = false
    ∧ (∀ i < 5, (s.readRegister 0x08).getLsbD i =
        [s.port.intCause.completion, s.port.intCause.event, s.port.intCause.urgent,
          s.port.intCause.fault, s.port.intCause.index][i]?.getD false)
    ∧ (∀ i < 5, (s.readRegister 0x00).getLsbD (8 + i) =
        [s.port.intEnable.completion, s.port.intEnable.event, s.port.intEnable.urgent,
          s.port.intEnable.fault, s.port.intEnable.index][i]?.getD false)
    ∧ (∀ i, 1 ≤ i → i < 8 ∨ 13 ≤ i → (s.readRegister 0x00).getLsbD i = false)
    ∧ (∀ i, 5 ≤ i → (s.readRegister 0x08).getLsbD i = false)
    ∧ (s.port.fault.index < 4096 → ∀ i < 32, (s.readRegister 0x1C).getLsbD i =
        if i < 4 then s.port.fault.code.code.testBit i
        else if i < 6 then s.port.fault.struct.code.testBit (i - 4)
        else if 16 ≤ i ∧ i < 28 then s.port.fault.index.testBit (i - 16)
        else false)
    ∧ (∀ r < 8, ∀ k w : Nat, k + w ≤ 4 → s.readBytes (4 * r + k) w =
        (List.range w).map fun j => (s.readRegister (4 * r)).extractLsb' (8 * (k + j)) 8)
    ∧ s.readRegister 0x0C = s.port.setup
    ∧ (s.ring.requestTail < 65536 → (s.readRegister 0x10).toNat = s.ring.requestTail)
    ∧ (s.ring.completionHead < 65536 → (s.readRegister 0x14).toNat = s.ring.completionHead)
    ∧ (s.ring.eventHead < 65536 → (s.readRegister 0x18).toNat = s.ring.eventHead))
  ∧ (∀ (s : State) (b m : Bool),
    Runs (.portConfigurationWrite b m) s
      { s with pcie := { s.pcie with busMastering := b, messages := m } }
    ∧ Runs .pcieLinkDown s { s with pcie := { s.pcie with linkUp := false } }
    ∧ Runs .pcieLinkUp s { s with pcie := { s.pcie with linkUp := true } }
    ∧ (∃ t : State, Runs .pcieReset s t
        ∧ t.pcie = { s.pcie with busMastering := false, messages := false })
    ∧ ∀ w : BitVec 32, w.getLsbD 1 = true → ∃ t : State, Runs (.controlReset w) s t
        ∧ t.pcie = s.pcie)

/-- R168, R172, R174, R46, R146: a CONTROL write that sets ENABLE begins LOADING in OFF, and else
only changes the register; one that clears it makes HALTED OFF and LIVE DRAINING, with the staged
request discarded, and leaves DRAINING at once, as DRAINING_EXIT would, when nothing is left to
drain (log entry 2). DRAINING ends when no slot is occupied, every claimed record is written and no
ring access is in flight: a moderation counter above 0 raises its cause, and OFF or LOADING follows
by ENABLE; EVENT before COMPLETION is the model's choice (log entry 2), as R46 gives no order. The
enables written are those held, so no message follows. -/
def Obligations.EnableBitMovesTheInterface : Prop :=
  (∀ (s : State) (v : BitVec 32), v.getLsbD 0 = true → v.getLsbD 1 = false →
    Causes.ofBits v 8 = s.port.intEnable →
    let read : Access :=
      { kind := .setupRead, address := s.port.setup.setWidth 64, length := 128, bytes := []
        sendable := s.pcie.busMastering && s.pcie.linkUp }
    (s.ring.iface = .off → Runs (.enableSet v) s { s with
      port := { s.port with enable := true, fault := { code := .noFault, struct := .setup, index := 0 } }
      ring := { s.ring with iface := .loading }
      mem := { s.mem with inFlight := some read } })
    ∧ (s.ring.iface ≠ .off → Runs (.enableSet v) s { s with port := { s.port with enable := true } }))
  ∧ (∀ (s : State) (v : BitVec 32), v.getLsbD 0 = false → v.getLsbD 1 = false →
    Causes.ofBits v 8 = s.port.intEnable →
    let busy := s.req.jobs ≠ [] ∨ s.ring.completionWrites ≠ [] ∨ s.ring.eventWrites ≠ []
      ∨ ∃ a, s.mem.inFlight = some a ∧ ((∃ i, a.kind = .completionWrite i)
        ∨ (∃ i u, a.kind = .eventWrite i u) ∨ ∃ i b, a.kind = .requestFetch i b)
    let x : State := { s with
      port := { s.port with enable := false }
      ring := { s.ring with iface := .draining }
      req := { s.req with staged := none }
      mem := { s.mem with inFlight := s.mem.inFlight.map fun a => match a.kind with
        | .requestFetch slot _ => { a with kind := .requestFetch slot true }
        | _ => a } }
    (s.ring.iface = .halted → Runs (.enableClear v) s { s with
      port := { s.port with enable := false }, ring := { s.ring with iface := .off } })
    ∧ (s.ring.iface = .off ∨ s.ring.iface = .loading ∨ s.ring.iface = .draining →
        Runs (.enableClear v) s { s with port := { s.port with enable := false } })
    ∧ (s.ring.iface = .live → busy → Runs (.enableClear v) s x)
    ∧ (s.ring.iface = .live → ¬ busy →
        ∃ t : State, Runs (.enableClear v) s t ∧ Runs .drainingExit x t ∧ t.ring.iface = .off))
  ∧ (∀ s : State,
    let busy := s.req.jobs ≠ [] ∨ s.ring.completionWrites ≠ [] ∨ s.ring.eventWrites ≠ []
      ∨ ∃ a, s.mem.inFlight = some a ∧ ((∃ i, a.kind = .completionWrite i)
        ∨ (∃ i u, a.kind = .eventWrite i u) ∨ ∃ i b, a.kind = .requestFetch i b)
    let idle : Moderation := { count := 0, since := none }
    let x : State := if 0 < s.ring.eventMod.count then
      State.raise { s with ring := { s.ring with eventMod := idle } }
        { Causes.none with event := true } else s
    let y : State := if 0 < s.ring.completionMod.count then
      State.raise { x with ring := { x.ring with completionMod := idle } }
        { Causes.none with completion := true } else x
    let read : Access :=
      { kind := .setupRead, address := s.port.setup.setWidth 64, length := 128, bytes := []
        sendable := s.pcie.busMastering && s.pcie.linkUp }
    (s.ring.iface ≠ .draining ∨ busy → Runs .drainingExit s s)
    ∧ (s.ring.iface = .draining → ¬ busy → s.port.enable = false →
        Runs .drainingExit s { y with ring := { y.ring with iface := .off } })
    ∧ (s.ring.iface = .draining → ¬ busy → s.port.enable = true →
        Runs .drainingExit s { y with
          port := { y.port with fault := { code := .noFault, struct := .setup, index := 0 } }
          ring := { y.ring with iface := .loading }
          mem := { y.mem with inFlight := some read } }))

/-- R176, R177, R189, R34, R146: index writes by bits 0 to 15 of the word: ignored outside LIVE and
DRAINING, refused with INDEX when the value is at or above the ring size or would consume more than
is posted, else accepted. A request tail equal to the request head discards the staged request; an
accepted EVT_HEAD drains the backlog. -/
def Obligations.IndexWritesAreChecked : Prop :=
  (∀ (s : State) (v : BitVec 32),
    let i := v.toNat % 65536
    let running := s.ring.iface = .live ∨ s.ring.iface = .draining
    (¬ running → Runs (.reqTailWrite v) s s)
    ∧ (running → s.ring.requestRingSize ≤ i →
        Runs (.reqTailWrite v) s (s.raise { Causes.none with index := true }))
    ∧ (running → i < s.ring.requestRingSize → i ≠ s.ring.requestHead →
        Runs (.reqTailWrite v) s { s with ring := { s.ring with requestTail := i } })
    ∧ (running → i < s.ring.requestRingSize → i = s.ring.requestHead →
        Runs (.reqTailWrite v) s { s with
          ring := { s.ring with requestTail := i }
          req := { s.req with staged := none }
          mem := { s.mem with inFlight := s.mem.inFlight.map fun a => match a.kind with
            | .requestFetch slot _ => { a with kind := .requestFetch slot true }
            | _ => a } }))
  ∧ (∀ (s : State) (v : BitVec 32),
    let i := v.toNat % 65536
    let running := s.ring.iface = .live ∨ s.ring.iface = .draining
    let cn := s.ring.completionRingSize
    let en := s.ring.eventRingSize
    let completionOk := i < cn ∧ (i + cn - s.ring.completionHead) % cn
      ≤ (s.ring.completionTail + cn - s.ring.completionHead) % cn
    let eventOk := i < en ∧ (i + en - s.ring.eventHead) % en
      ≤ (s.ring.eventTail + en - s.ring.eventHead) % en
    (¬ running → Runs (.cplHeadWrite v) s s ∧ Runs (.evtHeadWrite v) s s)
    ∧ (running → ¬ completionOk →
        Runs (.cplHeadWrite v) s (s.raise { Causes.none with index := true }))
    ∧ (running → ¬ eventOk →
        Runs (.evtHeadWrite v) s (s.raise { Causes.none with index := true }))
    ∧ (running → completionOk →
        Runs (.cplHeadWrite v) s { s with ring := { s.ring with completionHead := i } })
    ∧ (running → eventOk →
        Runs (.evtHeadWrite v) s (State.drain { s with ring := { s.ring with eventHead := i } })))

/-! ## The ring engine and the memory master -/

/-- R168 to R171: the end of the setup read, by the checks and by ENABLE: LIVE with the description
and windows loaded, each field from its place in the block (10.2), positions reset and the backlog
drained; HALTED with FAULT raised; or OFF. That the read may end so whatever the port's state is the
model's choice (log entry 36). -/
def Obligations.SetupReadEndsLoading : Prop :=
  ∀ (s : State) (block : Option (BitVec 1024)), s.flightKind = some .setupRead →
    let failure : Option FaultRegister := block.elim
      (some { code := .setupBusError, struct := .setup, index := 0 }) SetupBlock.check
    let idle : Moderation := { count := 0, since := none }
    let m : MemoryMaster := { s.mem with inFlight := none }
    (s.port.enable = false → Runs (.setupReadDone block) s { s with
      mem := m, ring := { s.ring with iface := .off }
      port := { s.port with fault := failure.getD s.port.fault } })
    ∧ (∀ f, s.port.enable = true → failure = some f → Runs (.setupReadDone block) s (State.raise
        { s with mem := m, ring := { s.ring with iface := .halted }, port := { s.port with fault := f } }
        { Causes.none with fault := true }))
    ∧ (∀ b, s.port.enable = true → failure = none → block = some b →
        let quad : Nat → BitVec 64 := fun offset => b.extractLsb' (8 * offset) 64
        let byte : Nat → BitVec 8 := fun offset => b.extractLsb' (8 * offset) 8
        let window : Nat → Window := fun i =>
          { base := quad (0x20 + 24 * i), length := quad (0x28 + 24 * i)
            permission := { read := (byte (0x30 + 24 * i)).getLsbD 0
                            write := (byte (0x30 + 24 * i)).getLsbD 1 } }
        let description : RingDescription :=
          { requestBase := quad 0x00, completionBase := quad 0x08, eventBase := quad 0x10
            requestExp := (byte 0x18).toNat, completionExp := (byte 0x19).toNat
            eventExp := (byte 0x1A).toNat
            completionCount := (byte 0x1C).toNat, completionDelay := (byte 0x1D).toNat
            eventCount := (byte 0x1E).toNat, eventDelay := (byte 0x1F).toNat }
        Runs (.setupReadDone block) s (State.drain { s with
          mem := { windows := #v[window 0, window 1, window 2, window 3], inFlight := none }
          req := { s.req with taken := 0 }
          ring := { s.ring with
            iface := .live, desc := some description
            requestHead := 0, completionTail := 0, eventTail := 0, requestTail := 0
            completionHead := 0, eventHead := 0, completionLap := true, eventLap := true
            completionMod := idle, eventMod := idle } }))

/-- R178, R179, R146: a grant of the memory arbiter: none while an access is in flight or outside
LIVE and DRAINING; else completion write, event write, request fetch, dump write, each at its
address, where a window permits it. That the grant is a command of its own is the model's choice
(log entry 2). -/
def Obligations.MemoryGrantsInOrder : Prop :=
  ∀ s : State,
    let running := s.ring.iface = .live ∨ s.ring.iface = .draining
    let can := s.pcie.busMastering && s.pcie.linkUp
    let fetches := s.ring.iface = .live ∧ s.ring.requestTail ≠ s.ring.requestHead
      ∧ s.req.staged = none
    let at_ : BitVec 64 → Nat → BitVec 64 := fun base n => base + BitVec.ofNat 64 n
    (s.mem.inFlight ≠ none ∨ ¬ running → Runs .memoryGrant s s)
    ∧ (running → s.mem.inFlight = none → ∀ d, s.ring.desc = some d →
        (∀ c cs, s.ring.completionWrites = c :: cs →
          let a := at_ d.completionBase (16 * c.slot)
          let access : Access :=
            { kind := .completionWrite c.slot, address := a, length := 16
              bytes := c.record.bytes c.lap, sendable := can }
          writable s.mem.windows a.toNat 16 = true →
          Runs .memoryGrant s { s with
            ring := { s.ring with completionWrites := cs }
            mem := { s.mem with inFlight := some access } })
        ∧ (∀ e es, s.ring.completionWrites = [] → s.ring.eventWrites = e :: es →
            let a := at_ d.eventBase (16 * e.slot)
            let access : Access :=
              { kind := .eventWrite e.slot e.record.urgent, address := a, length := 16
                bytes := e.record.bytes e.lap, sendable := can }
            writable s.mem.windows a.toNat 16 = true →
            Runs .memoryGrant s { s with
              ring := { s.ring with eventWrites := es }
              mem := { s.mem with inFlight := some access } })
        ∧ (s.ring.completionWrites = [] → s.ring.eventWrites = [] → fetches →
            let a := at_ d.requestBase (32 * s.ring.requestHead)
            let access : Access :=
              { kind := .requestFetch s.ring.requestHead false, address := a, length := 32
                bytes := [], sendable := can }
            readable s.mem.windows a.toNat 32 = true →
            Runs .memoryGrant s { s with mem := { s.mem with inFlight := some access } })
        ∧ (s.ring.completionWrites = [] → s.ring.eventWrites = [] → ¬ fetches →
            (s.req.dumpQueue = [] → Runs .memoryGrant s s)
            ∧ ∀ order os j w, s.req.dumpQueue = order :: os → s.dumpOf order = some (j, w) →
                let a := at_ w.buffer (16 * w.written)
                let size := if w.subject = .summary then 64 else 16
                let access : Access :=
                  { kind := .dumpWrite order, address := a, length := size
                    bytes := s.dumpRecord w, sendable := can }
                writable s.mem.windows a.toNat size = true →
                Runs .memoryGrant s { s with mem := { s.mem with inFlight := some access } }))

/-- R159, R160, R162, R163, R188: the record captured at the grant of a dump write: a LATEST record
from its table at that moment, a NEXT_SWEEP record from the capture area; each has the length of its
access. The channel, station and summary records, and the completion and event records, hold each
field at the place and with the code that 10.1 and 10.4 to 10.6 give it, and 0 elsewhere; a channel
record's location lies in the ranges of R18, as the channel law (O8) keeps it. A dump record written is counted, and the next follows while any is left; after the last
one the dump completes OK and its slot is free. A bus error ends it at once with the records
written before, and touches nothing but the dump. Which ends a write may have is tied to the port
(log entry 8). -/
def Obligations.DumpRecordsAreCapturedAndCounted : Prop :=
  (∀ (s : State) (d : DumpJob),
    let byte : List Byte → Nat → Byte := fun r i => r.getD i 0
    let half : List Byte → Nat → BitVec 16 := fun r i => byte r (i + 1) ++ byte r i
    let word : List Byte → Nat → BitVec 32 := fun r i => half r (i + 2) ++ half r i
    let bits : List Byte → Nat → Nat → (width : Nat) → BitVec width :=
      fun r i lo width => (byte r i).extractLsb' lo width
    let bit : List Byte → Nat → Nat → Bool := fun r i k => (byte r i).getLsbD k
    let channelRecord : List Byte → Nat → Channel → Prop := fun r n c =>
      byte r 0 = BitVec.ofNat 8 n ∧ byte r 1 = c.generation
      ∧ bits r 2 0 4 = BitVec.ofNat 4 c.condition.code
      ∧ bits r 2 4 4 = BitVec.ofNat 4 (reasonCode c.reason)
      ∧ bit r 3 0 = c.binding.isSome
      ∧ bit r 3 4 = c.last.isSome ∧ bit r 3 5 = c.peaks.isSome ∧ bits r 3 6 2 = 0
      ∧ (c.binding = none → bits r 3 1 3 = 0 ∧ bits r 4 0 6 = 0 ∧ byte r 5 = 0)
      ∧ (∀ b, c.binding = some b →
          bit r 3 1 = (b.format == .unsigned) ∧ bit r 3 2 = (b.cls == .urgent) ∧ bit r 3 3 = b.member
          ∧ bits r 4 0 4 = BitVec.ofNat 4 b.loc.station ∧ bits r 4 4 2 = BitVec.ofNat 2 b.loc.fn
          ∧ bits r 5 0 3 = BitVec.ofNat 3 b.loc.point ∧ bits r 5 3 5 = 0)
      ∧ (c.last = none → bits r 4 6 2 = 0 ∧ half r 6 = 0 ∧ word r 8 = 0)
      ∧ (∀ l, c.last = some l → bits r 4 6 2 = BitVec.ofNat 2 l.quality.code
          ∧ half r 6 = l.value ∧ word r 8 = l.time)
      ∧ (c.peaks = none → half r 12 = 0 ∧ half r 14 = 0)
      ∧ (∀ p, c.peaks = some p → half r 12 = p.min ∧ half r 14 = p.max)
    let identity : List Byte → Nat → Option ClassRev → Option Shape → Prop := fun r i cr sh =>
      (cr = none → byte r i = 0 ∧ byte r (i + 1) = 0)
      ∧ (∀ x, cr = some x → byte r i = x.cls ∧ byte r (i + 1) = x.rev)
      ∧ (sh = none → byte r (i + 2) = 0)
      ∧ (∀ x, sh = some x → bits r (i + 2) 0 4 = x.fns ∧ bits r (i + 2) 4 4 = x.pts)
    let stationRecord : List Byte → Nat → Station → Prop := fun r a q =>
      bits r 0 0 4 = BitVec.ofNat 4 a
      ∧ bit r 0 4 = q.classRev.isSome ∧ bit r 0 5 = q.shape.isSome
      ∧ bit r 0 6 = q.fingerprint.isSome ∧ bit r 0 7 = q.lastHeard.isSome
      ∧ bits r 1 0 4 = BitVec.ofNat 4 q.state.code
      ∧ bits r 1 4 4 = BitVec.ofNat 4 (reasonCode q.reason)
      ∧ identity r 2 q.classRev q.shape
      ∧ identity r 5 (q.fingerprint.map Fingerprint.classRev) (q.fingerprint.map Fingerprint.shape)
      ∧ bits r 8 0 4 = q.plan.fns ∧ bits r 8 4 4 = q.plan.attn
      ∧ bits r 9 0 2 = BitVec.ofNat 2 q.missCount ∧ bit r 9 2 = q.planApplied
      ∧ bit r 9 3 = q.holder.isSome ∧ bits r 9 4 4 = q.owed
      ∧ half r 10 = q.failed ∧ word r 12 = q.lastHeard.getD 0
    let summaryRecord : List Byte → Prop := fun r =>
      bits r 0 0 3 = BitVec.ofNat 3 s.mon.state.code ∧ bits r 0 3 3 = BitVec.ofNat 3 s.ring.iface.code
      ∧ bits r 0 6 2 = 0
      ∧ bits r 1 0 2 = BitVec.ofNat 2 s.trip.latch.code
      ∧ bit r 1 2 = s.mon.rosterComplete ∧ bit r 1 3 = s.mon.guardActive
      ∧ bit r 1 4 = s.mon.lineFaulted ∧ bit r 1 5 = s.mon.attnPartStuck
      ∧ bit r 1 6 = s.trip.rearmTime.isSome ∧ bit r 1 7 = false
      ∧ (s.trip.cause = none → byte r 2 = 0 ∧ byte r 3 = 0 ∧ byte r 4 = 0 ∧ word r 8 = 0)
      ∧ (∀ c, s.trip.cause = some c → byte r 2 = BitVec.ofNat 8 c.kind.code ∧ byte r 3 = c.source
          ∧ byte r 4 = BitVec.ofNat 8 c.count ∧ word r 8 = c.time)
      ∧ byte r 5 = BitVec.ofNat 8 s.evt.backlog.length ∧ half r 6 = 0
      ∧ word r 12 = s.trip.rearmTime.getD 0 ∧ word r 16 = s.mon.time
      ∧ word r 20 = s.bus.transactions ∧ word r 24 = s.bus.retries ∧ word r 28 = s.bus.missed
      ∧ word r 32 = s.sched.sweepsCompleted ∧ word r 36 = s.sched.sweepOverruns
      ∧ word r 40 = s.sched.attentionPasses
      ∧ word r 44 = s.evt.posted ∧ word r 48 = s.evt.coalesced ∧ word r 52 = s.evt.discarded
      ∧ word r 56 = s.mon.rounds ∧ word r 60 = 0
    let placed : Channel → Prop := fun c => ∀ b, c.binding = some b →
      b.loc.station ≤ 12 ∧ b.loc.fn ≤ 3 ∧ b.loc.point ≤ 7
    (d.subject = .channels → d.nextSweep = false → ∀ n, n = d.first + d.written → n < 128 →
      placed (s.chan n) → channelRecord (s.dumpRecord d) n (s.chan n))
    ∧ (d.subject = .channels → d.nextSweep = true → ∀ c, s.req.capture[d.written]? = some c →
        placed c → channelRecord (s.dumpRecord d) (d.first + d.written) c)
    ∧ (d.subject = .stations → ∀ a, a = d.written + 1 → a ≤ 12 →
        stationRecord (s.dumpRecord d) a (s.stn a))
    ∧ (d.subject = .summary → summaryRecord (s.dumpRecord d))
    ∧ (s.dumpRecord d).length = (if d.subject = .summary then 64 else 16)
    ∧ (∀ (c : Completion) (lap : Bool),
        let r := c.bytes lap
        r.length = 16
        ∧ byte r 0 = (if lap then 1 else 0) ∧ byte r 1 = c.kind ∧ half r 2 = c.tag
        ∧ byte r 4 = BitVec.ofNat 8 c.status.code ∧ byte r 5 = c.generation
        ∧ half r 6 = c.head ∧ half r 8 = c.value
        ∧ bits r 10 0 4 = BitVec.ofNat 4 c.stateOrCondition
        ∧ bits r 10 4 4 = BitVec.ofNat 4 (reasonCode c.reason)
        ∧ bits r 11 0 2 = BitVec.ofNat 2 c.quality.code
        ∧ bit r 11 2 = c.absent ∧ bit r 11 3 = c.discarded ∧ bit r 11 4 = c.notTripped
        ∧ bits r 11 5 3 = 0 ∧ word r 12 = c.time)
    ∧ ∀ (e : Entry) (lap : Bool),
        let r := e.bytes lap
        r.length = 16
        ∧ bit r 0 0 = lap ∧ bit r 0 1 = e.urgent ∧ bits r 0 4 4 = 0
        ∧ (∀ n, e.source = .channel n → bits r 0 2 2 = 0 ∧ byte r 1 = BitVec.ofNat 8 n)
        ∧ (∀ a, e.source = .station a → bits r 0 2 2 = 1 ∧ byte r 1 = BitVec.ofNat 8 a)
        ∧ (e.source = .trip → bits r 0 2 2 = 2 ∧ byte r 1 = 0)
        ∧ (e.source = .link → bits r 0 2 2 = 3 ∧ byte r 1 = 0)
        ∧ byte r 2 = e.generation ∧ byte r 3 = BitVec.ofNat 8 e.count
        ∧ byte r 4 = e.before ∧ byte r 5 = e.after ∧ byte r 6 = e.detail ∧ byte r 7 = 0
        ∧ word r 8 = e.first ∧ half r 12 = e.value ∧ half r 14 = e.offset)
  ∧ (([.unbound, .pending, .normal, .lowAlarm, .highAlarm, .critical, .sensorFault, .stale,
        .unreachable] : List Condition).map Condition.code = List.range 9
    ∧ ([none, some .silent, some .absent, some .rejected, some .noPoint, some .openInput, some .range,
        some .convertErr, some .stationFault, some .missed, some .linkFault, some .unsupported,
        some .malformed, some .changed, some .protocol, some .restarted] :
        List (Option Reason)).map reasonCode = List.range 16
    ∧ ([.valid, .openInput, .range, .convertErr] : List Quality).map Quality.code = List.range 4
    ∧ ([.unknown, .absent, .adopted, .silent, .rejected] : List StationState).map StationState.code
        = List.range 5
    ∧ ([.clear, .tripped, .rearmWait] : List Latch).map Latch.code = List.range 3
    ∧ ([.critical, .memberFault, .link, .guardHot, .guardLost, .forced] : List CauseKind).map
        CauseKind.code = [1, 2, 3, 4, 5, 6]
    ∧ ([.lineStuck, .collectiveSilence] : List LinkReason).map LinkReason.code = [1, 2]
    ∧ ([.guarding, .stopped, .enumerating, .monitoring, .recovering] : List MonitorState).map
        MonitorState.code = List.range 5
    ∧ ([.off, .loading, .live, .draining, .halted] : List InterfaceState).map InterfaceState.code
        = List.range 5
    ∧ ([.ok, .badKind, .badField, .badState, .badChannel, .notBound, .alreadyBound, .pointTaken,
        .badPoint, .badLimits, .busy, .windowFault, .busError, .stationLost, .linkReset, .timeout,
        .aborted] : List Status).map Status.code = List.range 17)
  ∧ (∀ (s : State) (a : Access) (order : Nat) (j : Job) (d : DumpJob),
    s.mem.inFlight = some a → a.kind = .dumpWrite order → s.dumpOf order = some (j, d) →
    (∀ k ∈ s.req.jobs, ∀ ws, k.work ≠ .sync ws) →
    let last : Nat := match d.subject with
      | .channels => d.count
      | .stations => 12
      | .summary => 1
    let ends : State → Status → Nat → Prop := fun t status n =>
      (∀ k ∈ t.req.jobs, k.order ≠ order)
      ∧ (∀ k ∈ s.req.jobs, k.order ≠ order → k ∈ t.req.jobs)
      ∧ t.req = { s.req with
          jobs := t.req.jobs, taken := s.req.taken - 1
          dumpQueue := s.req.dumpQueue.filter (· != order)
          capture := if d.nextSweep then [] else s.req.capture }
      ∧ (∃ w, t.ring.completionWrites = s.ring.completionWrites ++ [w]
          ∧ w.slot = s.ring.completionTail ∧ w.lap = s.ring.completionLap
          ∧ w.record.status = status ∧ w.record.tag = j.tag ∧ w.record.value = BitVec.ofNat 16 n
          ∧ w.record.head = BitVec.ofNat 16 s.ring.requestHead)
      ∧ t.ring = { s.ring with
          completionWrites := t.ring.completionWrites, completionTail := t.ring.completionTail
          completionLap := t.ring.completionLap }
      ∧ t = { s with req := t.req, ring := t.ring, mem := { s.mem with inFlight := none } }
    (a.sendable = true → d.written + 1 < last → ∃ t : State, Runs .dumpWriteDone s t
      ∧ t = { s with
          mem := { s.mem with inFlight := none }
          req := { s.req with jobs := s.req.jobs.map fun k =>
            if k.order = order then { k with work := .dump { d with written := d.written + 1 } }
            else k } })
    ∧ (a.sendable = true → last ≤ d.written + 1 →
        ∃ t : State, Runs .dumpWriteDone s t ∧ ends t .ok (d.written + 1))
    ∧ (a.sendable = false ∨ s.pcie.busMastering = false ∨ s.pcie.linkUp = false →
        ∃ t : State, Runs .dumpWriteBusError s t ∧ ends t .busError d.written))

/-- R146, R43 to R45: the record fetched becomes the staged request, unless it is to be discarded.
A record's write that ends without error adds to its moderation counter, starts its timer at the
first, and raises the cause when the count is reached or the delay is 0; an event is counted
posted, and an urgent one raises URGENT besides. A counter above 0 that has waited its delay raises
its cause and returns to 0. That such an end presupposes a write the port could send at its grant
is the model's reading of R180 (log entry 8), and that a read may end without error whatever the
port's state is its choice (log entry 36). -/
def Obligations.RecordsAreStagedAndModerated : Prop :=
  (∀ (s : State) (record : BitVec 256) (slot : Nat) (discard : Bool),
    s.flightKind = some (.requestFetch slot discard) →
    let m : MemoryMaster := { s.mem with inFlight := none }
    (discard = false → Runs (.requestFetchDone record) s { s with
      mem := m, req := { s.req with staged := some { record := record, slot := slot } } })
    ∧ (discard = true → Runs (.requestFetchDone record) s { s with mem := m }))
  ∧ (∀ (s : State) (a : Access) (d : RingDescription), s.mem.inFlight = some a → a.sendable = true →
    s.ring.desc = some d →
    let idle : Moderation := { count := 0, since := none }
    let up : Moderation → Moderation := fun m =>
      { count := m.count + 1, since := if m.count = 0 then some s.mon.time else m.since }
    let c := s.ring.completionMod
    let e := s.ring.eventMod
    let x : State := { s with mem := { s.mem with inFlight := none } }
    let y : State := { x with evt := { s.evt with posted := s.evt.posted + 1 } }
    (∀ i, a.kind = .completionWrite i →
      (d.completionCount ≤ c.count + 1 ∨ d.completionDelay = 0 →
        Runs .completionWriteDone s (State.raise
          { x with ring := { s.ring with completionMod := idle } } { Causes.none with completion := true }))
      ∧ (¬ (d.completionCount ≤ c.count + 1 ∨ d.completionDelay = 0) →
          Runs .completionWriteDone s { x with ring := { s.ring with completionMod := up c } }))
    ∧ (∀ i urgent, a.kind = .eventWrite i urgent →
        let z : State := if d.eventCount ≤ e.count + 1 ∨ d.eventDelay = 0 then
            State.raise { y with ring := { s.ring with eventMod := idle } }
              { Causes.none with event := true }
          else { y with ring := { s.ring with eventMod := up e } }
        Runs .eventWriteDone s (if urgent then z.raise { Causes.none with urgent := true } else z)))
  ∧ (∀ (s : State) (d : RingDescription), s.ring.desc = some d →
    let idle : Moderation := { count := 0, since := none }
    let due : Moderation → Nat → Prop := fun m delay =>
      0 < m.count ∧ ∃ t, m.since = some t ∧ delay ≤ (s.mon.time - t).toNat
    (due s.ring.eventMod d.eventDelay → Runs .eventModerationDelay s (State.raise
      { s with ring := { s.ring with eventMod := idle } } { Causes.none with event := true }))
    ∧ (¬ due s.ring.eventMod d.eventDelay → Runs .eventModerationDelay s s)
    ∧ (due s.ring.completionMod d.completionDelay → Runs .completionModerationDelay s (State.raise
        { s with ring := { s.ring with completionMod := idle } }
        { Causes.none with completion := true }))
    ∧ (¬ due s.ring.completionMod d.completionDelay → Runs .completionModerationDelay s s))

/-- R173, R41, R46, R165: a bus error on a ring access halts the interface: FAULT tells the ring
and the slot and the cause is raised; claimed records are lost and lost events counted; every job
is abandoned, with no completion, and leaves its slot at once, but for the running link job whose
transaction is on the bus and a link job abandoned before: these alone stay, abandoned, and the probe
of a job that leaves at once is abandoned with it. That a transaction in progress goes on and is
judged is the model's reading (log entry 20). -/
def Obligations.RingBusErrorHalts : Prop :=
  ∀ (s : State) (a : Access), s.JobLaw → (s.ring.iface = .live ∨ s.ring.iface = .draining) →
    s.mem.inFlight = some a →
    let idle : Moderation := { count := 0, since := none }
    let lostNow : Nat := match a.kind with
      | .eventWrite _ _ => 1
      | _ => 0
    let runs : LinkJob → Prop := fun j =>
      (∃ h rest, s.sched.jobs = h :: rest ∧ h.order = j.order)
      ∧ ∃ x, s.bus.txn = some x ∧ x.activity = .job ∧ x.orphan = false
    let halts : State → RingStructure → Nat → Prop := fun t ring i =>
      t.ring = { s.ring with
        iface := .halted, completionWrites := [], eventWrites := []
        completionMod := idle, eventMod := idle }
      ∧ t.port.fault = { code := .ringBusError, struct := ring, index := i }
      ∧ t.port.intCause = { s.port.intCause with fault := true }
      ∧ t.port = { s.port with fault := t.port.fault, intCause := t.port.intCause }
      ∧ t.evt = { s.evt with
          discarded := s.evt.discarded + BitVec.ofNat 32 (s.ring.eventWrites.length + lostNow) }
      ∧ t.req.staged = none ∧ t.req.taken = 0 ∧ t.req.dumpQueue = [] ∧ t.req.capture = []
      ∧ t.req.takeOrder = s.req.takeOrder
      ∧ (∀ j ∈ t.req.jobs, j.abandoned = true ∧ j.isLink = true)
      ∧ (∀ k, k ∈ t.sched.jobs ↔ ∃ j ∈ s.sched.jobs, (j.abandoned = true ∨ runs j)
          ∧ k = { j with abandoned := true })
      ∧ (∀ k, k ∈ t.req.jobs ↔ ∃ j ∈ s.req.jobs, (∃ l ∈ t.sched.jobs, l.order = j.order)
          ∧ k = { j with abandoned := true })
      ∧ (s.bus.txn = none → (∀ j ∈ s.sched.jobs, j.abandoned = false) →
          t.req.jobs = [] ∧ t.sched.jobs = [])
      ∧ t.mem = { s.mem with inFlight := none }
      ∧ t.sched = { s.sched with jobs := t.sched.jobs }
      ∧ (∀ n, t.stn n = { s.stn n with holder := (t.stn n).holder })
      ∧ (∀ n, (s.stn n).holder ≠ some .job → (t.stn n).holder = (s.stn n).holder)
      ∧ (∀ j ∈ s.sched.jobs, ∀ set w p, j.work = .rescan set w → w.probe = some p →
          j.abandoned = false → ¬ runs j → (t.stn p.address).holder ≠ some .job)
      ∧ t.pcie = { s.pcie with messagesSent := t.pcie.messagesSent }
      ∧ t = { s with
          ring := t.ring, port := t.port, evt := t.evt, req := t.req, mem := t.mem
          sched := t.sched, stations := t.stations, pcie := t.pcie }
    (∀ i b, a.kind = .requestFetch i b → ∃ t : State, Runs .ringBusError s t ∧ halts t .request i)
    ∧ (a.sendable = false ∨ s.pcie.busMastering = false ∨ s.pcie.linkUp = false →
        (∀ i, a.kind = .completionWrite i →
          ∃ t : State, Runs .ringBusError s t ∧ halts t .completion i)
        ∧ ∀ i u, a.kind = .eventWrite i u →
            ∃ t : State, Runs .ringBusError s t ∧ halts t .event i)

/-! ## Taking and refusing requests -/

/-- R155: NOP is permitted in every monitor state, needs no slot, acts on nothing and completes OK
at its take, with the request head in its completion. -/
def Obligations.NopCompletesAtItsTake : Prop :=
  ∀ (s : State) (r : Request), s.req.staged.map Staged.record = some r →
    Request.kind r = some .nop → Request.fieldsOk r .nop = true →
    s.ring.iface = .live → s.ring.requestTail ≠ s.ring.requestHead → s.credit = true →
    ∃ t : State, Runs .nop s t ∧ s.Answered t (Request.completion r .ok)
      ∧ s.Reported t [] ∧ t = { s with req := t.req, ring := t.ring }

/-- R147 to R150, R154: nothing is taken unless the staged request has the command's kind, the
interface is LIVE, the ring holds a request, credit is available and, for a job, a slot is free. A
request refused by checks 1 to 4 completes at its take with the status of the first check that
fails, changes no other block, and carries no result but, for a kind that names a channel below
128, that channel's generation. R187 and R150 give check 2, kind by kind, with every byte and bit the
kind does not use zero and every enumerated field holding a code, and the monitor states that permit
each kind. That a take command reads the staged record is the model's form
(log entry 2). -/
def Obligations.RequestsAreTakenOrRefusedInOrder : Prop :=
  (∀ s : State,
    let possible : Prop := s.ring.iface = .live ∧ s.ring.requestTail ≠ s.ring.requestHead
      ∧ s.req.taken + (s.ring.completionTail + s.ring.completionRingSize - s.ring.completionHead)
          % s.ring.completionRingSize < s.ring.completionRingSize - 1
    (∀ k : RequestKind,
      (∀ x, s.req.staged = some x → ¬ (Request.kind x.record = some k ∧ possible
        ∧ (k = .sync ∨ k = .freshRead ∨ k = .rescan ∨ k = .dump → s.req.jobs.length < 4))) →
        Runs k.command s s)
    ∧ ((∀ x, s.req.staged = some x → ¬ (Request.kind x.record = none ∧ possible)) →
        Runs .unknownKind s s))
  ∧ (∀ (s : State) (r : Request), s.req.staged.map Staged.record = some r → s.canTake r = true →
    let refuses : Instr → Status → BitVec 8 → Prop := fun c status g => ∃ t : State, Runs c s t
      ∧ s.Answered t { Request.completion r status with generation := g }
      ∧ s.Reported t [] ∧ t = { s with req := t.req, ring := t.ring }
    (Request.kind r = none → refuses .unknownKind .badKind 0)
    ∧ ∀ k : RequestKind, Request.kind r = some k →
        let named := k = .defineChannel ∨ k = .retireChannel ∨ k = .setLimits ∨ k = .readChannel
          ∨ k = .freshRead
        let n := (byteAt r 4).toNat
        ∀ g : BitVec 8, (named ∧ n < 128 → g = (s.chan n).generation) →
          (¬ (named ∧ n < 128) → g = 0) →
          (Request.fieldsOk r k = false → refuses k.command .badField g)
          ∧ (Request.fieldsOk r k = true → Request.permitted r k s.mon.state = false →
              refuses k.command .badState g)
          ∧ (Request.fieldsOk r k = true → Request.permitted r k s.mon.state = true → named →
              128 ≤ n → refuses k.command .badChannel g))
  ∧ (∀ (r : Request) (k : RequestKind) (m : MonitorState),
    let byte : Nat → BitVec 8 := fun i => r.extractLsb' (8 * i) 8
    let zero : Nat → Nat → Prop := fun lo hi => ∀ i, lo ≤ i → i ≤ hi → byte i = 0
    let zeroOrOne : Nat → Prop := fun i => byte i = 0 ∨ byte i = 1
    (Request.fieldsOk r k = true ↔ byte 1 = 0 ∧ match k with
      | .nop | .sync | .start | .stop | .rearmTrip | .forceTrip => zero 4 31
      | .configure => zero 15 31 ∧ (byte 13).toNat < 16 ∧ zeroOrOne 14
      | .defineChannel => zero 22 31 ∧ zeroOrOne 8 ∧ zeroOrOne 9 ∧ zeroOrOne 10 ∧ (byte 11).toNat < 16
      | .setLimits => zero 5 10 ∧ zero 22 31 ∧ (byte 11).toNat < 16
      | .retireChannel | .freshRead | .acceptStation => zero 5 31
      | .readChannel => zero 6 31 ∧ zeroOrOne 5
      | .rescan => zero 6 31 ∧ (byte 5).toNat < 16
      | .dump => zero 16 31 ∧ zeroOrOne 5 ∧ (byte 4 = 1 ∨ (byte 4 = 2 ∨ byte 4 = 3) ∧ zero 6 7))
    ∧ (Request.permitted r k m = true ↔ match k with
      | .nop | .sync | .rearmTrip | .forceTrip => True
      | .configure => m = .guarding ∨ m = .stopped
      | .start => m = .stopped
      | .stop => m = .enumerating ∨ m = .monitoring ∨ m = .recovering
      | .defineChannel | .retireChannel | .setLimits | .readChannel => m ≠ .guarding
      | .freshRead | .rescan => m = .monitoring
      | .acceptStation => m = .stopped ∨ m = .monitoring
      | .dump => byte 5 = 1 → m = .monitoring))

/-- R152, R156, R157: a SYNC whose set is empty completes at its take; else it occupies a slot with
the set of the jobs in slots. A job that ends frees its slot and posts its completion, and after
it, in the same happening and in take order, complete exactly the SYNCs that now wait for no other
job; every job that stays keeps its slot, a SYNC without the ended jobs in its set. The premises are
clauses of the job law (O11): slots in take order, and a SYNC's set of earlier jobs. That abandoned
jobs are left out of the set is the model's reading (log entry 19), and that the SYNCs complete right
after the job that empties their set is the model's choice (log entry 32). -/
def Obligations.SyncWaitsForEarlierJobs : Prop :=
  (∀ (s : State) (r : Request), s.Accepts r .sync →
    let set := (s.req.jobs.filter fun j => !j.abandoned).map Job.order
    ∃ t : State, Runs .sync s t ∧ s.Reported t [] ∧ t = { s with req := t.req, ring := t.ring }
      ∧ (set = [] → s.Answered t (Request.completion r .ok))
      ∧ (set ≠ [] → s.Placed t
          { order := s.req.takeOrder + 1, kind := .sync, tag := Request.tag r, abandoned := false
            work := .sync set } ∧ t.req.dumpQueue = s.req.dumpQueue))
  ∧ (∀ (s : State) (order : Nat) (c : Completion), s.req.jobs.length ≤ 4 →
    (s.req.jobs.map Job.order).Pairwise (· < ·) →
    (∀ k ∈ s.req.jobs, ∀ w ∈ k.waitsFor, w < k.order) →
    let t := s.endJob order c
    let withHead : Completion → Completion := fun x =>
      { x with head := BitVec.ofNat 16 s.ring.requestHead }
    ∃ ks : List Job, ks.Sublist s.req.jobs
      ∧ (let ended := order :: ks.map Job.order
        let without : Job → Job := fun k => match k.work with
          | .sync ws => { k with work := .sync (ws.filter fun w => decide (w ∉ ended)) }
          | .link _ | .dump _ => k
        (∀ k ∈ s.req.jobs, k ∈ ks ↔ k.order ≠ order ∧ k.abandoned = false
          ∧ ∃ ws, k.work = .sync ws ∧ ∀ w ∈ ws, w ∈ ended)
        ∧ t.req = { s.req with
            jobs := (s.req.jobs.filter fun k => decide (k.order ∉ ended)).map without
            taken := s.req.taken - (ks.length + 1) })
      ∧ t.ring.completionWrites.map CompletionWrite.record
        = s.ring.completionWrites.map CompletionWrite.record ++ [withHead c]
          ++ ks.map (fun k => withHead (Completion.plain 2 k.tag .ok))
      ∧ t = { s with req := t.req, ring := { s.ring with
          completionWrites := t.ring.completionWrites, completionTail := t.ring.completionTail
          completionLap := t.ring.completionLap } })

/-! ## The requests of the monitor controller -/

/-- R137, R138, R56, R73, R83, R92: a CONFIGURE with values out of range is refused whole with
BAD_FIELD and changes no parameter; in GUARD it does not end guard. Else all six parameters are
replaced, roster-complete is cleared when the mask changes, and every plan is derived afresh when
attention use changes. One that passes its checks in GUARD ends guard besides: guard poll, start-up,
reprobe and line recovery end and their probes are abandoned, their transaction runs on with nothing
advancing on its outcome, a primitive's report will be discarded, the guard qualification is cleared,
in REARM_WAIT the release test is made, and the monitor is STOPPED with roster-complete clear; the
line part of the link state keeps its value. -/
def Obligations.ConfigureReplacesAndEndsGuard : Prop :=
  ∀ (s : State) (r : Request), s.Accepts r .configure →
    let p : Params :=
      { sweepPeriod := (halfAt r 4).toNat, staleLimit := (halfAt r 6).toNat
        reprobeInterval := (halfAt r 8).toNat, tripGrace := (halfAt r 10).toNat
        stationMask := (halfAt r 12).setWidth 12, attentionUse := byteAt r 14 != 0 }
    let ok := 10 ≤ p.sweepPeriod ∧ p.sweepPeriod ≤ 10000 ∧ p.sweepPeriod % 10 = 0
      ∧ 50 ≤ p.staleLimit ∧ p.staleLimit ≤ 60000 ∧ p.sweepPeriod < p.staleLimit
      ∧ 100 ≤ p.reprobeInterval ∧ p.reprobeInterval ≤ 10000 ∧ p.tripGrace ≤ 10000
      ∧ p.stationMask ≠ 0
    let replans : State → Nat → Prop := fun t a =>
      p.attentionUse ≠ s.mon.params.attentionUse ∧ t.derivedPlan a ≠ (s.stn a).plan
    (¬ ok → ∃ t : State, Runs .configure s t ∧ s.Answered t (Request.completion r .badField)
      ∧ s.Reported t [] ∧ t = { s with req := t.req, ring := t.ring })
    ∧ (ok → s.mon.state = .stopped →
      ∃ t : State, Runs .configure s t ∧ s.Answered t (Request.completion r .ok)
        ∧ s.Reported t []
        ∧ t = { s with
            req := t.req, ring := t.ring, stations := t.stations
            mon := { s.mon with
              params := p
              rosterComplete := s.mon.rosterComplete && p.stationMask == s.mon.params.stationMask } }
        ∧ ∀ a, 1 ≤ a → a ≤ 12 →
          (replans t a → t.stn a = { s.stn a with plan := t.derivedPlan a, planApplied := false })
          ∧ (¬ replans t a → t.stn a = s.stn a))
    ∧ (ok → s.mon.state = .guarding →
      ∃ t : State, Runs .configure s t ∧ s.Answered t (Request.completion r .ok)
        ∧ t.mon = { s.mon with
            params := p, rosterComplete := false, state := .stopped
            guardActive := false, guardStage := none, guardPoll := none, nextGuardPoll := none
            guardReprobe := none, recovery := none }
        ∧ t.trip = { s.trip with
            guardQualified := false
            latch := if s.trip.latch = .rearmWait ∧ t.releasePasses = true then .clear
              else s.trip.latch }
        ∧ (s.trip.latch ≠ .rearmWait ∨ t.releasePasses = false → s.Reported t [])
        ∧ (s.trip.latch = .rearmWait → t.releasePasses = true → s.Reported t
            [s.tripNotice .rearmWait .clear s.trip.firstCause.1 s.trip.firstCause.2])
        ∧ (let probes : Activity → Nat → Prop := fun act a =>
              (act = .guardStartup ∧ ∃ sent q, s.mon.guardStage = some (.startup sent (some q))
                ∧ q.address = a)
              ∨ (act = .guardReprobe ∧ ∃ w q, s.mon.guardReprobe = some w ∧ w.probe = some q
                ∧ q.address = a)
              ∨ (act = .recovery ∧ ∃ v w q, s.mon.recovery = some v ∧ v.stage = .probing w
                ∧ w.probe = some q ∧ q.address = a)
            let drops : Nat → Prop := fun a => ∃ act, (s.stn a).holder = some act ∧ probes act a
            (∀ a, 1 ≤ a → a ≤ 12 →
              (replans t a → t.stn a = { s.stn a with
                holder := (t.stn a).holder, plan := t.derivedPlan a, planApplied := false })
              ∧ (¬ replans t a → t.stn a = { s.stn a with holder := (t.stn a).holder })
              ∧ (drops a → (t.stn a).holder = none)
              ∧ (¬ drops a → (t.stn a).holder = (s.stn a).holder))
            ∧ ∀ x, s.bus.txn = some x →
              (x.activity = .guardPoll ∨ (∃ a, probes x.activity a) →
                t.bus.txn = some { x with orphan := true })
              ∧ (x.activity = .job ∨ x.activity = .sweep ∨ x.activity = .attention
                  ∨ x.activity = .enumeration → t.bus.txn = some x)
              ∧ ∃ o, t.bus.txn = some { x with orphan := o })
        ∧ t.bus = { s.bus with txn := t.bus.txn, primitive := t.bus.primitive }
        ∧ t.bus.primitive = s.bus.primitive.map (fun p => { p with discard := true })
        ∧ (s.bus.txn = none → t.bus.txn = none)
        ∧ t = { s with
            req := t.req, ring := t.ring, stations := t.stations, mon := t.mon, trip := t.trip
            bus := t.bus, evt := t.evt })

/-- R139, R25, R79, R93: START: channels become PENDING, SILENT stations are due a reprobe, the
sweep timer runs, and the monitor is MONITORING or ENUMERATING by roster-complete, unless the line
is reported stuck: then it enters RECOVERING next. The changes into PENDING are not noticed (R14),
and of the trip unit they clear marks alone (R59). That the reprobe times are set before the entry to
RECOVERING, so that a station taken out of use there holds a later time, is the model's choice (log entry
45). -/
def Obligations.StartBeginsMonitoring : Prop :=
  ∀ (s : State) (r : Request), s.Accepts r .start →
    let x : State := s.take
    let y : State := x.channelsStart.reprobeNow.startTimer.beginMonitoring
    let timer : SweepTimer :=
      { next := s.mon.time + BitVec.ofNat 32 s.mon.params.sweepPeriod
        period := s.mon.params.sweepPeriod }
    (s.bus.stuckReported = true → ∃ t : State, Runs .start s t
      ∧ t = (y.enterRecovering .lineStuck).complete
          ((y.enterRecovering .lineStuck).monitorCompletion r)
      ∧ t.mon.state = .recovering)
    ∧ (s.bus.stuckReported = false →
        ∃ t : State, Runs .start s t
          ∧ s.Answered t { Request.completion r .ok with
              stateOrCondition := if s.mon.rosterComplete then 3 else 2 }
          ∧ t.mon = { s.mon with
              state := if s.mon.rosterComplete then .monitoring else .enumerating
              enumeration := if s.mon.rosterComplete then s.mon.enumeration
                else some { last := 0, probe := none } }
          ∧ t.sched = { s.sched with timer := some timer }
          ∧ (∀ n < 128, t.chan n =
              if (s.chan n).bound = true ∧ (s.chan n).condition ≠ .unreachable then
                { s.chan n with
                  condition := .pending, reason := none, pendingSince := some s.mon.time }
              else s.chan n)
          ∧ (∀ a, 1 ≤ a → a ≤ 12 → t.stn a =
              if (s.stn a).state = .silent then { s.stn a with reprobeAt := some s.mon.time }
              else s.stn a)
          ∧ t.trip = { s.trip with marks := t.trip.marks }
          ∧ (∀ n < 128, t.trip.marks.getLsbD n = true ↔ s.trip.marks.getLsbD n = true
              ∧ ¬ ((s.chan n).isMember = true ∧ (s.chan n).condition ≠ .unreachable
                ∧ (s.chan n).condition ≠ .pending))
          ∧ s.Reported t []
          ∧ t = { s with
              req := t.req, ring := t.ring, mon := t.mon, sched := t.sched, channels := t.channels
              stations := t.stations, trip := t.trip, evt := t.evt })

/-- R109, R144, R161, R26: STOP: the timer stops, sweep and pass are discarded, every link job ends
ABORTED and a NEXT_SWEEP dump that has not captured too, each with its tag, while the other dumps go
on, enumeration or recovery ends, the monitor is STOPPED, and the channel table is frozen. The
completion of the STOP comes last. R92, R119, R144: a transaction on the bus stays there as it is, with its
address, register, data, phase and attempt; it becomes an orphan where its activity has ended, and stays
with its activity otherwise. A primitive in progress goes on, and where a recovery ends its report is
discarded. R73: the probe holds of the ended enumeration, recovery, sweep and RESCANs are removed, and every
other hold stays. -/
def Obligations.StopEndsTheWork : Prop :=
  ∀ (s : State) (r : Request), s.Accepts r .stop → s.JobLaw →
    ∃ t : State, Runs .stop s t
      ∧ t.req.staged = none ∧ t.req.takeOrder = s.req.takeOrder + 1
      ∧ t.mon = { s.mon with
          state := .stopped
          enumeration := if s.mon.state = .enumerating then none else s.mon.enumeration
          recovery := if s.mon.state = .recovering then none else s.mon.recovery
          rosterComplete := s.mon.rosterComplete && s.mon.state != .recovering }
      ∧ t.sched = { s.sched with
          timer := none, sweep := none, owedSweep := false, pass := none, emptyPasses := 0
          jobs := t.sched.jobs }
      ∧ t.sched.jobs.map LinkJob.order
        = (s.sched.jobs.filter LinkJob.abandoned).map LinkJob.order
      ∧ (∀ j ∈ s.req.jobs, j.isLink = true → j.abandoned = false →
          (∀ k ∈ t.req.jobs, k.order ≠ j.order)
          ∧ ∃ w ∈ t.ring.completionWrites.drop s.ring.completionWrites.length,
              w.record.status = .aborted ∧ w.record.tag = j.tag
              ∧ w.record.kind = byteOf j.kind.code)
      ∧ (∀ j ∈ s.req.jobs, ∀ d, j.waitingDump = some d →
          (∀ k ∈ t.req.jobs, k.order ≠ j.order) ∧ t.req.capture = []
          ∧ ∃ w ∈ t.ring.completionWrites.drop s.ring.completionWrites.length,
              w.record.status = .aborted ∧ w.record.tag = j.tag
              ∧ w.record.kind = byteOf j.kind.code ∧ w.record.value = BitVec.ofNat 16 d.written)
      ∧ (∀ j ∈ s.req.jobs, ∀ d, j.work = .dump d → j.waitingDump = none → j ∈ t.req.jobs)
      ∧ (∃ ws w, t.ring.completionWrites = s.ring.completionWrites ++ ws ++ [w]
          ∧ w.record = { Request.completion r .ok with
              stateOrCondition := 1
              head := BitVec.ofNat 16 ((s.ring.requestHead + 1) % s.ring.requestRingSize) }
          ∧ ∀ v ∈ ws, v.record.status = .aborted ∨ v.record.kind = byteOf RequestKind.sync.code)
      ∧ t.bus = { s.bus with txn := t.bus.txn, primitive := t.bus.primitive }
      ∧ (s.bus.txn = none → t.bus.txn = none)
      ∧ (∀ x, s.bus.txn = some x →
          let ended : Prop := x.activity = .sweep ∨ x.activity = .attention
            ∨ (x.activity = .job ∧ s.sched.jobs ≠ [])
            ∨ (x.activity = .enumeration ∧ s.mon.state = .enumerating ∧ s.mon.enumeration ≠ none)
            ∨ (x.activity = .recovery ∧ s.mon.state = .recovering
              ∧ ∃ k w, s.mon.recovery = some k ∧ k.stage = .probing w)
          (ended → t.bus.txn = some { x with orphan := true })
          ∧ (¬ ended → t.bus.txn = some x))
      ∧ (s.bus.primitive = none → t.bus.primitive = none)
      ∧ (∀ p, s.bus.primitive = some p → t.bus.primitive
          = some { p with discard := p.discard || s.mon.state == .recovering })
      ∧ (∀ a, t.stn a = { s.stn a with holder := (t.stn a).holder })
      ∧ (∀ a, 1 ≤ a → a ≤ 12 →
          let walks : ProbeWalk → Prop := fun w => ∃ p, w.probe = some p ∧ p.address = a
          let dropped : Prop :=
            ((s.stn a).holder = some .enumeration ∧ s.mon.state = .enumerating
              ∧ ∃ w, s.mon.enumeration = some w ∧ walks w)
            ∨ ((s.stn a).holder = some .recovery ∧ s.mon.state = .recovering
              ∧ ∃ k w, s.mon.recovery = some k ∧ k.stage = .probing w ∧ walks w)
            ∨ ((s.stn a).holder = some .sweep
              ∧ ∃ w p, s.sched.sweep = some w ∧ w.position = .probing p ∧ p.address = a)
            ∨ ((s.stn a).holder = some .job
              ∧ ∃ j ∈ s.sched.jobs, ∃ set w, j.work = .rescan set w ∧ walks w)
          (dropped → (t.stn a).holder = none)
          ∧ (¬ dropped → (t.stn a).holder = (s.stn a).holder))
      ∧ t.ring = { s.ring with
          requestHead := t.ring.requestHead, completionWrites := t.ring.completionWrites
          completionTail := t.ring.completionTail, completionLap := t.ring.completionLap }
      ∧ t = { s with
          req := t.req, ring := t.ring, mon := t.mon, sched := t.sched, bus := t.bus
          stations := t.stations }

/-- R80, R110, R141: entry to RECOVERING: the line is FAULTED, every ADOPTED station becomes SILENT
with LINK_FAULT and its channels UNREACHABLE, timer, sweep, pass and enumeration end, the running
link job ends LINK_RESET while the others stay, a NEXT_SWEEP dump that has not captured ends ABORTED,
each with its tag, while the other dumps go on, and the recovery stage is set by the reason. R142: a
release round counts in the rounds counter; that it is counted as the round begins, here at the entry
with LINK_STUCK, is the model's reading (log entry 22). R136,
R65, R23: the notices are LINK_FAULT, unless the line is FAULTED already, and then for each station
that was ADOPTED, in ascending order, its own and those of its channels; R52, R53, R59: the latch and the cause
record stand, since the entry of a member into UNREACHABLE raises no cause while the line is FAULTED, and
the mark of each such member goes; notices and trip for a state in which guard is not active, as in
ENUMERATING and MONITORING. R92, R110, R141: a transaction on the bus stays there as
it is, with its address, register, data, phase and attempt, and a primitive goes on; the transaction
becomes an orphan where its activity has ended here (sweep, attention pass, running link job, enumeration,
and, where guard is active, the guard poll of a station 1 taken out of use), and stays with its activity
otherwise. R73: the probe holds of the ended enumeration, sweep and running RESCAN are removed, and every
other hold stays. -/
def Obligations.EntryToRecovering : Prop :=
  ∀ (s : State) (reason : LinkReason), s.JobLaw →
    let t := s.enterRecovering reason
    let lost : Nat → Prop := fun a => 1 ≤ a ∧ a ≤ 12 ∧ (s.stn a).state = .adopted
    t.mon = { s.mon with
      state := .recovering, lineFaulted := true, enumeration := none
      recovery := some
        { stage := if reason = .lineStuck then .releaseRound else .broadcastReset, reason := reason }
      rounds := if reason = .lineStuck then s.mon.rounds + 1 else s.mon.rounds
      guardPoll := t.mon.guardPoll, nextGuardPoll := t.mon.nextGuardPoll }
    ∧ (s.mon.guardActive = false →
        t.mon.guardPoll = s.mon.guardPoll ∧ t.mon.nextGuardPoll = s.mon.nextGuardPoll)
    ∧ (∀ a, lost a → t.stn a = { s.stn a with
        state := .silent, reason := some .linkFault, missCount := 0
        reprobeAt := some (s.mon.time + BitVec.ofNat 32 s.mon.params.reprobeInterval)
        owed := 0, raisedAgain := 0, planApplied := false, holder := (t.stn a).holder })
    ∧ (∀ a, ¬ lost a → t.stn a = { s.stn a with holder := (t.stn a).holder })
    ∧ (∀ n < 128, ∀ b, (s.chan n).binding = some b → lost b.loc.station → t.chan n =
        { s.chan n with condition := .unreachable, reason := some .silent })
    ∧ (∀ n < 128, (∀ b, (s.chan n).binding = some b → ¬ lost b.loc.station) → t.chan n = s.chan n)
    ∧ t.sched = { s.sched with
        timer := none, sweep := none, owedSweep := false, pass := none, emptyPasses := 0
        jobs := t.sched.jobs }
    ∧ (∀ j js, s.sched.jobs = j :: js →
        t.sched.jobs = (if j.abandoned then j :: js else js)
        ∧ (j.abandoned = false → (∀ k ∈ t.req.jobs, k.order ≠ j.order)
          ∧ ∃ k ∈ s.req.jobs, k.order = j.order
            ∧ ∃ w ∈ t.ring.completionWrites.drop s.ring.completionWrites.length,
              w.record.status = .linkReset ∧ w.record.tag = k.tag
              ∧ w.record.kind = byteOf k.kind.code))
    ∧ (∀ j ∈ s.req.jobs, ∀ d, j.waitingDump = some d →
        (∀ k ∈ t.req.jobs, k.order ≠ j.order) ∧ t.req.capture = []
        ∧ ∃ w ∈ t.ring.completionWrites.drop s.ring.completionWrites.length,
            w.record.status = .aborted ∧ w.record.tag = j.tag
            ∧ w.record.kind = byteOf j.kind.code ∧ w.record.value = BitVec.ofNat 16 d.written)
    ∧ (∀ j ∈ s.req.jobs, ∀ d, j.work = .dump d → j.waitingDump = none → j ∈ t.req.jobs)
    ∧ (s.mon.guardActive = false →
        let fault : Notice :=
          { source := .link, generation := 0
            before := byteOf (linkCode false s.mon.attnPartStuck)
            after := byteOf (linkCode true s.mon.attnPartStuck), detail := byteOf reason.code
            value := 0, time := s.mon.time, classUrgent := false }
        let station : Nat → Notice := fun a =>
          { source := .station a, generation := 0, before := 2, after := 3, detail := 10
            value := (s.stn a).classRev.elim 0 fun cr => cr.cls.setWidth 16
            time := s.mon.time, classUrgent := false }
        let channels : Nat → List Notice := fun a => (List.range 128).filterMap fun n =>
          if (s.chan n).onStation a = true ∧ (s.chan n).condition ≠ .unreachable then
            some (s.channelNotice n (s.chan n).condition
              { s.chan n with condition := .unreachable, reason := some .silent })
          else none
        s.Reported t ((if s.mon.lineFaulted then [] else [fault])
          ++ ((List.range' 1 12).filter fun a => (s.stn a).state == .adopted).flatMap fun a =>
            station a :: channels a))
    ∧ t.trip.faultStart = (if s.mon.lineFaulted then s.trip.faultStart else some s.mon.time)
    ∧ (s.mon.guardActive = false →
        t.trip = { s.trip with
          faultStart := t.trip.faultStart, marks := t.trip.marks
          linkCauseRaised := s.mon.lineFaulted && s.trip.linkCauseRaised }
        ∧ ∀ n < 128,
          let reports : Prop := (s.chan n).condition ≠ .unreachable
            ∧ ∃ b, (s.chan n).binding = some b ∧ b.member = true ∧ lost b.loc.station
          (reports → t.trip.marks.getLsbD n = false)
          ∧ (¬ reports → t.trip.marks.getLsbD n = s.trip.marks.getLsbD n))
    ∧ t.bus = { s.bus with txn := t.bus.txn }
    ∧ (s.bus.txn = none → t.bus.txn = none)
    ∧ (∀ x, s.bus.txn = some x →
        let ended : Prop := x.activity = .sweep ∨ x.activity = .attention
          ∨ (x.activity = .job ∧ s.sched.jobs ≠ [])
          ∨ (x.activity = .enumeration ∧ s.mon.enumeration ≠ none)
          ∨ (x.activity = .guardPoll ∧ s.mon.guardActive = true ∧ lost 1)
        (ended → t.bus.txn = some { x with orphan := true })
        ∧ (¬ ended → t.bus.txn = some x))
    ∧ (∀ a, 1 ≤ a → a ≤ 12 →
        let walks : ProbeWalk → Prop := fun w => ∃ p, w.probe = some p ∧ p.address = a
        let dropped : Prop :=
          ((s.stn a).holder = some .enumeration ∧ ∃ w, s.mon.enumeration = some w ∧ walks w)
          ∨ ((s.stn a).holder = some .sweep
            ∧ ∃ w p, s.sched.sweep = some w ∧ w.position = .probing p ∧ p.address = a)
          ∨ ((s.stn a).holder = some .job
            ∧ ∃ j js set w, s.sched.jobs = j :: js ∧ j.work = .rescan set w ∧ walks w)
        (dropped → (t.stn a).holder = none)
        ∧ (¬ dropped → (t.stn a).holder = (s.stn a).holder))
    ∧ t.mem = s.mem ∧ t.port = s.port ∧ t.pcie = s.pcie ∧ t.pending = s.pending

/-! ## The requests of the channel table -/

/-- R18, R19, R3, R83: DEFINE_CHANNEL: the checks in their order; a refusal carries the present
generation and changes nothing; else the channel is bound with the next generation, nothing read
yet, and the condition that the station's state gives, and the station's plan is derived afresh. R5, R187: the fields stand at their places in the
request; a set of limits is valid when each enabled limit is less than every enabled limit after it
in the order critical low, low, high, critical high, as values of the format, and the hysteresis is
at most 4095. -/
def Obligations.DefineChannelBinds : Prop :=
  ∀ (s : State) (r : Request), s.Accepts r .defineChannel →
    let n := (byteAt r 4).toNat
    let enabled : Nat → Nat → Option Count := fun k i =>
      if (byteAt r 11).getLsbD k then some (halfAt r i) else none
    let b : Binding :=
      { loc := { station := (byteAt r 5).toNat, fn := (byteAt r 6).toNat, point := (byteAt r 7).toNat }
        format := if byteAt r 8 = 0 then .signed else .unsigned
        cls := if byteAt r 9 = 0 then .routine else .urgent
        member := byteAt r 10 != 0
        limits :=
          { criticalLow := enabled 0 14, low := enabled 1 16, high := enabled 2 18
            criticalHigh := enabled 3 20, hysteresis := halfAt r 12 } }
    let a := b.loc.station
    let valid : Limits → Format → Prop := fun l f =>
      let value : Count → Int := fun c => match f with
        | .signed => c.toInt
        | .unsigned => (c.toNat : Int)
      let below : Option Count → Option Count → Prop := fun x y =>
        ∀ c d, x = some c → y = some d → value c < value d
      below l.criticalLow l.low ∧ below l.criticalLow l.high ∧ below l.criticalLow l.criticalHigh
      ∧ below l.low l.high ∧ below l.low l.criticalHigh ∧ below l.high l.criticalHigh
      ∧ l.hysteresis.toNat ≤ 4095
    let c := s.chan n
    let st := (s.stn a).state
    let inRange := 1 ≤ a ∧ a ≤ 12 ∧ b.loc.fn ≤ 3 ∧ b.loc.point ≤ 7
    let noPoint := st = .adopted ∧ (s.stn a).hasPoint b.loc.fn b.loc.point = false
    let taken := ∃ m < 128, ∃ o, (s.chan m).binding = some o ∧ o.loc = b.loc
    let answers : Status → Prop := fun status => ∃ t : State, Runs .defineChannel s t
      ∧ s.Answered t { Request.completion r status with generation := c.generation }
      ∧ s.Reported t [] ∧ t = { s with req := t.req, ring := t.ring }
    (c.binding ≠ none → answers .alreadyBound)
    ∧ (c.binding = none → ¬ inRange → answers .badField)
    ∧ (c.binding = none → inRange → noPoint → answers .badPoint)
    ∧ (c.binding = none → inRange → ¬ noPoint → taken → answers .pointTaken)
    ∧ (c.binding = none → inRange → ¬ noPoint → ¬ taken → ¬ valid b.limits b.format →
        answers .badLimits)
    ∧ (c.binding = none → inRange → ¬ noPoint → ¬ taken → valid b.limits b.format →
        ∃ t : State, Runs .defineChannel s t
          ∧ s.Answered t { Request.completion r .ok with generation := c.generation + 1 }
          ∧ s.Reported t []
          ∧ t.chan n =
            { generation := c.generation + 1, binding := some b
              condition := if st = .unknown ∨ st = .adopted then .pending else .unreachable
              reason := if st = .silent then some .silent else if st = .absent then some .absent
                else if st = .rejected then some .rejected else none
              last := none
              pendingSince := if st = .unknown ∨ st = .adopted then some s.mon.time else none
              peaks := none }
          ∧ (∀ m, m ≠ n → t.chan m = s.chan m)
          ∧ t.stn a = (if t.derivedPlan a = (s.stn a).plan then s.stn a
              else { s.stn a with plan := t.derivedPlan a, planApplied := false })
          ∧ (∀ o, o ≠ a → t.stn o = s.stn o)
          ∧ t = { s with
              req := t.req, ring := t.ring, channels := t.channels, stations := t.stations })

/-- R20, R37, R52, R59, R83: RETIRE_CHANNEL: NOT_BOUND, or the record is emptied but for its
generation, the backlog entry is discarded and counted, a trip member's mark is cleared and in
REARM_WAIT the release test is made, and the station's plan is derived afresh. -/
def Obligations.RetireChannelUnbinds : Prop :=
  ∀ (s : State) (r : Request), s.Accepts r .retireChannel →
    let n := (byteAt r 4).toNat
    let c := s.chan n
    let held := ∃ e ∈ s.evt.backlog, e.source = .channel n
    let x : State := { s with evt := { s.evt with
      backlog := s.evt.backlog.filter fun e => e.source != .channel n
      discarded := if held then s.evt.discarded + 1 else s.evt.discarded } }
    ∃ t : State, Runs .retireChannel s t
      ∧ (c.binding = none →
          s.Answered t { Request.completion r .notBound with generation := c.generation }
          ∧ s.Reported t [] ∧ t = { s with req := t.req, ring := t.ring })
      ∧ ∀ b, c.binding = some b →
          let released := b.member = true ∧ s.trip.latch = .rearmWait ∧ t.releasePasses = true
          s.Answered t { Request.completion r .ok with
            generation := c.generation, discarded := decide held }
          ∧ t.chan n =
            { generation := c.generation, binding := none, condition := .unbound, reason := none
              last := none, pendingSince := none, peaks := none }
          ∧ (∀ m, m ≠ n → t.chan m = s.chan m)
          ∧ t.trip = { s.trip with
              marks := if b.member then s.trip.marks &&& ~~~(BitVec.twoPow 128 n) else s.trip.marks
              latch := if released then .clear else s.trip.latch }
          ∧ (released → x.Reported t
              [s.tripNotice .rearmWait .clear s.trip.firstCause.1 s.trip.firstCause.2])
          ∧ (¬ released → x.Reported t [])
          ∧ (1 ≤ b.loc.station → b.loc.station ≤ 12 → t.stn b.loc.station =
              if t.derivedPlan b.loc.station = (s.stn b.loc.station).plan then s.stn b.loc.station
              else { s.stn b.loc.station with
                plan := t.derivedPlan b.loc.station, planApplied := false })
          ∧ (∀ o, o ≠ b.loc.station → t.stn o = s.stn o)
          ∧ t = { s with
              req := t.req, ring := t.ring, channels := t.channels, stations := t.stations
              evt := t.evt, trip := t.trip }

/-- R21, R59, R5, R187: SET_LIMITS: NOT_BOUND, BAD_LIMITS where an enabled limit is not less than an
enabled one after it (critical low, low, high, critical high, as values of the channel's format) or
the hysteresis is above 4095, or the limits and hysteresis are replaced, and in
MONITORING a channel that a VALID reading has judged is judged again with its last value: a change
is handed on as a notice, a trip member's entry to CRITICAL is a cause, and a mark is only ever
cleared. That a refusal NOT_BOUND or BAD_LIMITS carries the channel's condition is the model's
reading (log entry 15). -/
def Obligations.SetLimitsJudgesAgain : Prop :=
  ∀ (s : State) (r : Request), s.Accepts r .setLimits →
    let n := (byteAt r 4).toNat
    let c := s.chan n
    let enabled : Nat → Nat → Option Count := fun k i =>
      if (byteAt r 11).getLsbD k then some (halfAt r i) else none
    let l : Limits :=
      { criticalLow := enabled 0 14, low := enabled 1 16, high := enabled 2 18
        criticalHigh := enabled 3 20, hysteresis := halfAt r 12 }
    let valid : Limits → Format → Prop := fun l f =>
      let value : Count → Int := fun c => match f with
        | .signed => c.toInt
        | .unsigned => (c.toNat : Int)
      let below : Option Count → Option Count → Prop := fun x y =>
        ∀ c d, x = some c → y = some d → value c < value d
      below l.criticalLow l.low ∧ below l.criticalLow l.high ∧ below l.criticalLow l.criticalHigh
      ∧ below l.low l.high ∧ below l.low l.criticalHigh ∧ below l.high l.criticalHigh
      ∧ l.hysteresis.toNat ≤ 4095
    let answers : Status → Prop := fun status => ∃ t : State, Runs .setLimits s t
      ∧ s.Answered t { Request.completion r status with
          generation := c.generation, stateOrCondition := c.condition.code }
      ∧ s.Reported t [] ∧ t = { s with req := t.req, ring := t.ring }
    let judged := s.mon.state = .monitoring ∧ (c.condition = .normal ∨ c.condition = .lowAlarm
      ∨ c.condition = .highAlarm ∨ c.condition = .critical)
    (c.binding = none → answers .notBound)
    ∧ (∀ b, c.binding = some b → ¬ valid l b.format → answers .badLimits)
    ∧ (∀ b, c.binding = some b → valid l b.format → ¬ judged →
        ∃ t : State, Runs .setLimits s t
          ∧ s.Answered t { Request.completion r .ok with
              generation := c.generation, stateOrCondition := c.condition.code }
          ∧ s.Reported t []
          ∧ t.chan n = { c with binding := some { b with limits := l } }
          ∧ (∀ m, m ≠ n → t.chan m = s.chan m)
          ∧ t = { s with req := t.req, ring := t.ring, channels := t.channels })
    ∧ (∀ b v, c.binding = some b → valid l b.format → judged → c.last = some v →
        let cond := judge b.format l c.condition (b.format.value v.value)
        let after : Channel :=
          { c with binding := some { b with limits := l }, condition := cond, reason := none }
        let x := s.setChan n after
        let y := if c.condition ≠ cond then x.notify (x.channelNotice n c.condition after) else x
        let z := if b.member = true ∧ cond = .critical ∧ c.condition ≠ .critical
          then y.raiseCause .critical (byteOf n) else y
        ∃ t : State, Runs .setLimits s t
          ∧ s.Answered t { Request.completion r .ok with
              generation := c.generation, stateOrCondition := cond.code }
          ∧ t.chan n = after ∧ (∀ m, m ≠ n → t.chan m = s.chan m)
          ∧ State.SameEvents z t
          ∧ t.trip = { z.trip with marks :=
              if b.member = true ∧ cond = .critical then z.trip.marks &&& ~~~(BitVec.twoPow 128 n)
              else z.trip.marks }
          ∧ t = { s with
              req := t.req, ring := t.ring, channels := t.channels, evt := t.evt, trip := t.trip })

/-- R22, R76, R103, R104, R108, R150. READ_CHANNEL: NOT_BOUND, or the channel's last reading,
condition, reason and generation; with CLEAR_PEAKS both peaks become absent, and nothing else
changes. FRESH_READ: NOT_BOUND, STATION_LOST, or a slot and the tail of the link-job queue, with
the channel's generation recorded. RESCAN: BAD_FIELD for an empty set, BUSY while another RESCAN
occupies a slot, else a slot and the tail of the queue. -/
def Obligations.ReadRequestsAreAnsweredOrQueued : Prop :=
  (∀ (s : State) (r : Request), s.Accepts r .readChannel →
    let n := (byteAt r 4).toNat
    let c := s.chan n
    let base : Status → Completion := fun status =>
      { Request.completion r status with generation := c.generation }
    ∃ t : State, Runs .readChannel s t ∧ s.Reported t []
      ∧ (c.binding = none →
          s.Answered t (base .notBound) ∧ t = { s with req := t.req, ring := t.ring })
      ∧ (c.binding ≠ none →
          (∀ l, c.last = some l → s.Answered t { base .ok with
            stateOrCondition := c.condition.code, reason := c.reason, value := l.value
            quality := l.quality, time := l.time })
          ∧ (c.last = none → s.Answered t { base .ok with
              stateOrCondition := c.condition.code, reason := c.reason, absent := true })
          ∧ t.chan n = (if (byteAt r 5).getLsbD 0 then { c with peaks := none } else c)
          ∧ (∀ m, m ≠ n → t.chan m = s.chan m)
          ∧ t = { s with req := t.req, ring := t.ring, channels := t.channels }))
  ∧ (∀ (s : State) (r : Request), s.Accepts r .freshRead →
    let n := (byteAt r 4).toNat
    let c := s.chan n
    let order := s.req.takeOrder + 1
    let work : FreshRead :=
      { channel := n, generation := c.generation, taken := s.mon.time, stage := .convert
        acked := false, flagSeen := false, fault := false, quality := none }
    let refused : Status → State → Prop := fun status t =>
      s.Answered t { Request.completion r status with generation := c.generation }
      ∧ t = { s with req := t.req, ring := t.ring }
    ∃ t : State, Runs .freshRead s t ∧ s.Reported t []
      ∧ (c.binding = none → refused .notBound t)
      ∧ ∀ b, c.binding = some b →
          let reachable := (s.stn b.loc.station).state = .adopted
            ∧ (s.stn b.loc.station).hasPoint b.loc.fn b.loc.point = true
          (¬ reachable → refused .stationLost t)
          ∧ (reachable →
              s.Placed t { order := order, kind := .freshRead, tag := Request.tag r
                           abandoned := false, work := .link c.generation }
              ∧ t.req.dumpQueue = s.req.dumpQueue
              ∧ t = { s with req := t.req, ring := t.ring, sched := { s.sched with
                  jobs := s.sched.jobs ++
                    [{ order := order, abandoned := false, work := .fresh work }] } }))
  ∧ (∀ (s : State) (r : Request), s.Accepts r .rescan →
    let set : BitVec 12 := (halfAt r 4).setWidth 12
    let order := s.req.takeOrder + 1
    let work : LinkWork := .rescan set { last := 0, probe := none }
    let busy := ∃ j ∈ s.req.jobs, j.kind = .rescan
    ∃ t : State, Runs .rescan s t ∧ s.Reported t []
      ∧ (set = 0 → s.Answered t (Request.completion r .badField)
          ∧ t = { s with req := t.req, ring := t.ring })
      ∧ (set ≠ 0 → busy → s.Answered t (Request.completion r .busy)
          ∧ t = { s with req := t.req, ring := t.ring })
      ∧ (set ≠ 0 → ¬ busy →
          s.Placed t { order := order, kind := .rescan, tag := Request.tag r, abandoned := false
                       work := .link 0 }
          ∧ t.req.dumpQueue = s.req.dumpQueue
          ∧ t = { s with req := t.req, ring := t.ring, sched := { s.sched with
              jobs := s.sched.jobs ++ [{ order := order, abandoned := false, work := work }] } }))

/-- R75, R65: ACCEPT_STATION: BAD_FIELD outside 1 to 12, BAD_STATE unless the station is REJECTED
CHANGED; else the identity as last read becomes the fingerprint, the station is ADOPTED with its
plan derived and not applied, and the change is handed on: the station's notice, then its channels.
That a BAD_STATE refusal carries the station's state and a BAD_FIELD refusal nothing is the model's
reading (log entry 15). R65, R56, R81, R107: the hand-on of every change of state that an outcome
makes, in its order: the station's notice; its channels; for station 1 leaving ADOPTED in guard,
GUARD_LOST and the end of the guard poll; for a station that leaves ADOPTED, STATION_LOST for every
FRESH_READ on it, in queue order, and the end of a visit to it; and, where no station is ADOPTED any
longer, the collective silence report of a MISSED, which makes the monitor RECOVERING. That a FRESH_READ
counts as on the station by its channel's present binding, whatever generation the job recorded, is the
model's reading (log entry 22); a job abandoned at a halt is passed by (R165). The hand-on is stated for
every new record: no outcome gives one with reason LINK_FAULT, which R65 excepts from STATION_LOST. -/
def Obligations.AcceptStationAdopts : Prop :=
  (∀ (s : State) (r : Request), s.Accepts r .acceptStation →
    let a := (byteAt r 4).toNat
    let q := s.stn a
    ∃ t : State, Runs .acceptStation s t
      ∧ (¬ (1 ≤ a ∧ a ≤ 12) → s.Answered t (Request.completion r .badField)
          ∧ s.Reported t [] ∧ t = { s with req := t.req, ring := t.ring })
      ∧ (1 ≤ a → a ≤ 12 → ¬ (q.state = .rejected ∧ q.reason = some .changed) →
          s.Answered t { Request.completion r .badState with stateOrCondition := q.state.code }
          ∧ s.Reported t [] ∧ t = { s with req := t.req, ring := t.ring })
      ∧ (1 ≤ a → a ≤ 12 → q.state = .rejected → q.reason = some .changed →
          let q' : Station := { q with
            state := .adopted, reason := none, reprobeAt := none, missCount := 0, owed := 0
            raisedAgain := 0, plan := s.derivedPlan a, planApplied := false
            fingerprint := match q.classRev, q.shape with
              | some cr, some sh => some { classRev := cr, shape := sh }
              | _, _ => none }
          let notice : Notice :=
            { source := .station a, generation := 0, before := 4, after := 2, detail := 0
              value := q.classRev.elim 0 fun cr => cr.cls.setWidth 16
              time := s.mon.time, classUrgent := false }
          let x := ((s.setStn a q').notify notice).channelsOfStation a .adopted
          s.Answered t { Request.completion r .ok with stateOrCondition := 2 }
          ∧ t.stn a = q' ∧ (∀ o, o ≠ a → t.stn o = s.stn o)
          ∧ t.channels = x.channels ∧ t.trip = x.trip ∧ State.SameEvents x t
          ∧ t = { s with
              req := t.req, ring := t.ring, stations := t.stations, channels := t.channels
              evt := t.evt, trip := t.trip }))
  ∧ (∀ (s : State) (a : Nat) (r : Station), s.JobLaw → 1 ≤ a → a ≤ 12 →
    r.state ≠ (s.stn a).state →
    let q := s.stn a
    let t := s.changeStation a r
    let notice : Notice :=
      { source := .station a, generation := 0, before := byteOf q.state.code
        after := byteOf r.state.code, detail := byteOf (reasonCode r.reason)
        value := r.classRev.elim 0 fun cr => cr.cls.setWidth 16
        time := s.mon.time, classUrgent := false }
    let x := ((s.setStn a r).notify notice).channelsOfStation a r.state
    let guard : Bool := a == 1 && q.state == .adopted && s.mon.guardActive
    let y := if guard = true then x.raiseCause .guardLost 1 else x
    let lost : LinkJob → Bool := fun j => q.state == .adopted && !j.abandoned && (match j.work with
      | .fresh f => (s.chan f.channel).onStation a
      | .rescan _ _ => false)
    let silence := q.state = .adopted ∧ r.state = .silent ∧ r.reason = some .missed
      ∧ (∀ o, 1 ≤ o → o ≤ 12 → o ≠ a → (s.stn o).state ≠ .adopted)
      ∧ (s.mon.state = .enumerating ∨ s.mon.state = .monitoring)
    (silence → t.mon.state = .recovering ∧ t.mon.lineFaulted = true ∧ t.mon.recovery
      = some { stage := .broadcastReset, reason := .collectiveSilence })
    ∧ (¬ silence →
        t.stn a = r ∧ (∀ o, o ≠ a → t.stn o = s.stn o)
        ∧ t.channels = x.channels ∧ State.SameEvents y t
        ∧ t.trip = (if guard = true then { y.trip with guardQualified := false } else x.trip)
        ∧ t.mon = { s.mon with
            guardPoll := if guard = true then none else s.mon.guardPoll
            nextGuardPoll := if guard = true then none else s.mon.nextGuardPoll }
        ∧ t.sched = { s.sched with
            jobs := s.sched.jobs.filter fun j => !lost j
            sweep := t.sched.sweep, pass := t.sched.pass }
        ∧ (∀ w v, s.sched.sweep = some w → w.position = .visiting v → q.state = .adopted →
            v.address = a → t.sched.sweep = some { w with position := .after a })
        ∧ (∀ p v, s.sched.pass = some p → p.position = .visiting v → q.state = .adopted →
            v.address = a → t.sched.pass = some { p with position := .after a })
        ∧ (∀ j ∈ s.sched.jobs, lost j = true → ∀ k ∈ t.req.jobs, k.order ≠ j.order)
        ∧ (∃ ws : List CompletionWrite,
            t.ring.completionWrites = s.ring.completionWrites ++ ws
            ∧ (∀ w ∈ ws, w.record.status = .stationLost
              ∨ (w.record.status = .ok ∧ w.record.kind = 2))
            ∧ (ws.map CompletionWrite.record).filter (fun c => c.status == .stationLost)
              = (s.sched.jobs.filter lost).filterMap fun j =>
                  (s.req.jobs.find? fun k => k.order == j.order).map fun k =>
                    { Completion.plain (byteOf k.kind.code) k.tag .stationLost with
                      generation := match k.work with
                        | .link g => g
                        | .dump _ | .sync _ => 0
                      head := BitVec.ofNat 16 s.ring.requestHead })
        ∧ t.bus = { s.bus with txn := t.bus.txn }
        ∧ t.mem = s.mem ∧ t.port = s.port ∧ t.pcie = s.pcie ∧ t.pending = s.pending))

/-- R158 to R160: DUMP: the five checks in their order; else a slot, and a LATEST dump joins the
writing dumps at once, while a NEXT_SWEEP dump waits, with a sweep present at its take let pass. -/
def Obligations.DumpIsCheckedAndPlaced : Prop :=
  ∀ (s : State) (r : Request), s.Accepts r .dump →
    let subject := Request.dumpSubject r
    let next := byteAt r 5 = 1
    let first := (byteAt r 6).toNat
    let count := (byteAt r 7).toNat
    let buffer := quadAt r 8
    let size := match subject with
      | .channels => 16 * count
      | .stations => 192
      | .summary => 64
    let badRange := subject = .channels ∧ (count < 1 ∨ 128 < count ∨ 128 < first + count)
    let badMode := next ∧ subject ≠ .channels
    let busy := next ∧ ∃ j ∈ s.req.jobs, ∃ d, j.work = .dump d ∧ d.nextSweep = true
    let inside := ∃ i : Fin 4, s.mem.windows[i].permission.write = true
      ∧ s.mem.windows[i].base.toNat ≤ buffer.toNat
      ∧ buffer.toNat + size ≤ s.mem.windows[i].base.toNat + s.mem.windows[i].length.toNat
    let work : DumpJob :=
      { subject := subject, nextSweep := decide next, first := first, count := count
        buffer := buffer, written := 0
        phase := if next then .waiting s.sched.sweep.isSome else .writing none }
    let answers : Status → State → Prop := fun status t =>
      s.Answered t (Request.completion r status)
    ∃ t : State, Runs .dump s t ∧ s.Reported t [] ∧ t = { s with req := t.req, ring := t.ring }
      ∧ (badRange ∨ badMode ∨ buffer.toNat % 16 ≠ 0 → answers .badField t)
      ∧ (¬ badRange → ¬ badMode → buffer.toNat % 16 = 0 → busy → answers .busy t)
      ∧ (¬ badRange → ¬ badMode → buffer.toNat % 16 = 0 → ¬ busy → ¬ inside →
          answers .windowFault t)
      ∧ (¬ badRange → ¬ badMode → buffer.toNat % 16 = 0 → ¬ busy → inside →
          s.Placed t { order := s.req.takeOrder + 1, kind := .dump, tag := Request.tag r
                       abandoned := false, work := .dump work }
          ∧ t.req.dumpQueue = s.req.dumpQueue ++ (if next then [] else [s.req.takeOrder + 1]))

/-! ## The trip requests -/

/-- R57, R58: REARM_TRIP by the latch state it finds: no change in CLEAR, with NOT_TRIPPED; else
the rearm time is set, marks and guard qualification are cleared, the latch becomes REARM_WAIT with
its notice from TRIPPED, and the release test is made, which passes at the rearm itself only when
no member is bound, guard is not active and the link is not faulted. FORCE_TRIP raises FORCED by
the latch state it finds; the release test looks at no cause. -/
def Obligations.RearmAndForceActByTheLatch : Prop :=
  (∀ (s : State) (r : Request), s.Accepts r .rearmTrip →
    let fresh := s.mon.lineFaulted = false ∧ s.mon.guardActive = false
      ∧ ∀ n < 128, (s.chan n).isMember = false
    let first : Byte := byteOf (s.trip.cause.elim 0 fun c => c.kind.code)
    let source : Count := (s.trip.cause.elim 0 CauseRecord.source).setWidth 16
    let notice : Byte → Byte → Notice := fun before after =>
      { source := .trip, generation := 0, before := before, after := after, detail := first
        value := source, time := s.mon.time, classUrgent := false }
    let rearmed : Latch → TripUnit := fun latch =>
      { s.trip with
        latch := latch, rearmTime := some s.mon.time, marks := 0, guardQualified := false }
    let ok : Completion := Request.completion r .ok
    ∃ t : State, Runs .rearmTrip s t
      ∧ t = { s with req := t.req, ring := t.ring, trip := t.trip, evt := t.evt }
      ∧ (s.trip.latch = .clear → s.Answered t { ok with notTripped := true }
          ∧ t.trip = s.trip ∧ s.Reported t [])
      ∧ (s.trip.latch = .tripped → ¬ fresh →
          s.Answered t { ok with stateOrCondition := 2 }
          ∧ t.trip = rearmed .rearmWait ∧ t.tripOut = true ∧ s.Reported t [notice 1 2])
      ∧ (s.trip.latch = .tripped → fresh →
          s.Answered t { ok with stateOrCondition := 0 }
          ∧ t.trip = rearmed .clear ∧ t.tripOut = false
          ∧ s.Reported t [notice 1 2, notice 2 0])
      ∧ (s.trip.latch = .rearmWait → ¬ fresh →
          s.Answered t { ok with stateOrCondition := 2 }
          ∧ t.trip = rearmed .rearmWait ∧ t.tripOut = true ∧ s.Reported t [])
      ∧ (s.trip.latch = .rearmWait → fresh →
          s.Answered t { ok with stateOrCondition := 0 }
          ∧ t.trip = rearmed .clear ∧ t.tripOut = false ∧ s.Reported t [notice 2 0]))
  ∧ (∀ (s : State) (r : Request), s.Accepts r .forceTrip →
    let more : Option CauseRecord :=
      s.trip.cause.map fun x => { x with count := min (x.count + 1) 255 }
    let notice : Byte → Notice := fun before =>
      { source := .trip, generation := 0, before := before, after := 1, detail := 6, value := 0
        time := s.mon.time, classUrgent := false }
    ∃ t : State, Runs .forceTrip s t
      ∧ s.Answered t { Request.completion r .ok with stateOrCondition := 1 }
      ∧ t.trip.latch = .tripped ∧ t.tripOut = true
      ∧ t = { s with req := t.req, ring := t.ring, trip := t.trip, evt := t.evt }
      ∧ (s.trip.latch = .clear →
          t.trip = { s.trip with
            latch := .tripped
            cause := some { kind := .forced, source := 0, time := s.mon.time, count := 1 } }
          ∧ s.Reported t [notice 0])
      ∧ (s.trip.latch = .tripped → t.trip = { s.trip with cause := more } ∧ s.Reported t [])
      ∧ (s.trip.latch = .rearmWait →
          t.trip = { s.trip with
            latch := .tripped, cause := more, marks := 0, guardQualified := false }
          ∧ s.Reported t [notice 2])
      ∧ ∀ c : Option CauseRecord, State.releasePasses { t with trip := { t.trip with cause := c } }
          = t.releasePasses)

/-! ## Steps on monitor time -/

/-- R16, R53: a freshness step, made in MONITORING at a multiple of 10 ms, marks STALE, in channel
order, every examined channel whose age exceeds the stale limit; else nothing happens. R15, R52, R59: each
of them in its turn hands its notice, and then, if it is a trip member, its member report, from which the
trip unit takes a MEMBER_FAULT cause and clears its mark. Where no
such channel is a trip member, exactly their notices are handed. The grace examination raises LINK,
with source 0, once for a fault that has outlasted the trip grace while a member is bound or guard
is active; else it changes nothing. -/
def Obligations.FreshnessAndGraceSteps : Prop :=
  (∀ s : State,
    let due := s.mon.state = .monitoring ∧ s.mon.time.toNat % 10 = 0
    let aged : Nat → Prop := fun n =>
      let c := s.chan n
      c.binding ≠ none ∧ c.condition ∉ [Condition.unbound, .stale, .unreachable]
      ∧ ∃ t, (if c.condition = .pending then c.pendingSince else c.last.map LastReading.time) = some t
        ∧ s.mon.params.staleLimit < (s.mon.time - t).toNat
    let stale : Channel → Channel := fun c => { c with condition := .stale, reason := none }
    (¬ due → Runs .freshnessStep s s)
    ∧ (due → ∃ t : State, Runs .freshnessStep s t
        ∧ (∀ n < 128, aged n → t.chan n = stale (s.chan n))
        ∧ (∀ n < 128, ¬ aged n → t.chan n = s.chan n)
        ∧ (∃ ns : List Nat, ns.Pairwise (· < ·) ∧ (∀ n, n ∈ ns ↔ n < 128 ∧ aged n)
          ∧ (let handOn : State → Nat → State := fun x n =>
               let before := s.chan n
               let x1 := (x.setChan n (stale before)).notify
                 (s.channelNotice n before.condition (stale before))
               if before.isMember then x1.memberReport n before.condition .stale .change else x1
             t.trip = (ns.foldl handOn s).trip ∧ State.SameEvents (ns.foldl handOn s) t)
          ∧ ((∀ n < 128, aged n → (s.chan n).isMember = false) → t.trip = s.trip
            ∧ s.Reported t
              (ns.map fun n => s.channelNotice n (s.chan n).condition (stale (s.chan n)))))
        ∧ t = { s with channels := t.channels, evt := t.evt, trip := t.trip
                       ring := { s.ring with
                         eventWrites := t.ring.eventWrites, eventTail := t.ring.eventTail
                         eventLap := t.ring.eventLap } }))
  ∧ (∀ s : State,
    let due := s.mon.lineFaulted = true ∧ s.trip.linkCauseRaised = false
      ∧ ((∃ n < 128, (s.chan n).isMember = true) ∨ s.mon.guardActive = true)
      ∧ ∃ t, s.trip.faultStart = some t ∧ s.mon.params.tripGrace < (s.mon.time - t).toNat
    (¬ due → Runs .tripGraceExpiry s s)
    ∧ (due → ∃ t : State, Runs .tripGraceExpiry s t
        ∧ t.trip.latch = .tripped
        ∧ t = { s.raiseCause .link 0 with
            trip := { (s.raiseCause .link 0).trip with linkCauseRaised := true } }
        ∧ Runs .tripGraceExpiry t t))

/-- R93, R94, R105, R133, R134, R142: the sweep timer's firing begins a sweep or counts an overrun,
and the waits of the FRESH_READ poll, of the guard poll and of the recovery retry end when their
time is over; before it, each leaves the state as it is. While guard watches, a guard poll begins
when its time has come and station 1 is ADOPTED, ends 200 ms after its begin if it has not reached
its reads, and station 1 is reprobed when it is SILENT and its reprobe time has come. R160, R161: a
sweep that completes with a NEXT_SWEEP dump in a slot is let pass where it was present at the take of
the dump; else its channel records are captured, the dump begins to write, and its OK completion
carries the begin time of the sweep. R133, R84, R86: a grant issues the guard poll's transaction to
station 1 by its stage, convert, STATUS, plan write, QUALITY, READING, and nothing during its wait; a
DONE moves the stage on, and the READING's is handed to the trip unit with the quality of point 0, as not
VALID where the STATUS read kept showed FAULT, which acts by R55; a MISSED and a NAK end the poll. That
these begin at their commands is the model's choice (log entry 7), that a wait is over from exactly its
length on is the model's reading, and so is the half-range test of the firing time and of the next guard
poll time, which R79 states for the reprobe time alone (log entry 17), that the issue of the poll's
QUALITY read leaves the raised-again mark as it is (log entry 12), and that a release round is counted
as it begins (log entry 22). The last frame sent is the model's own observation (log entry 16). -/
def Obligations.TimersAndWaitsEnd : Prop :=
  (∀ s : State,
    let passed : Time → Nat := fun t => (s.mon.time - t).toNat
    (∀ k, s.sched.timer = some k →
      let fired : SweepTimer := { k with next := k.next + BitVec.ofNat 32 k.period }
      (2 ^ 31 ≤ passed k.next → Runs .sweepTimerFiring s s)
      ∧ (passed k.next < 2 ^ 31 → s.sched.sweep = none → Runs .sweepTimerFiring s
          { s with sched := { s.sched with
            timer := some fired, sweep := some { beginTime := s.mon.time, position := .after 0 } } })
      ∧ (passed k.next < 2 ^ 31 → s.sched.sweep ≠ none → Runs .sweepTimerFiring s
          { s with sched := { s.sched with
            timer := some fired, owedSweep := true
            sweepOverruns := s.sched.sweepOverruns + 1 } }))
    ∧ (s.sched.timer = none → Runs .sweepTimerFiring s s)
    ∧ (∀ j js f t, s.sched.jobs = j :: js → j.work = .fresh f → f.stage = .waiting t →
        (passed t < 2 → Runs .pollWaitExpiry s s)
        ∧ (2 ≤ passed t → Runs .pollWaitExpiry s { s with sched := { s.sched with
            jobs := { j with work := .fresh { f with stage := .poll } } :: js } }))
    ∧ (∀ g t, s.mon.guardPoll = some g → g.stage = .waiting t →
        (passed t < 2 → Runs .guardPollWaitExpiry s s)
        ∧ (2 ≤ passed t → Runs .guardPollWaitExpiry s
            { s with mon := { s.mon with guardPoll := some { g with stage := .poll } } }))
    ∧ (∀ k t, s.mon.recovery = some k → k.stage = .retryWait t →
        (passed t < 2000 → Runs .recoveryRetryWaitExpiry s s)
        ∧ (2000 ≤ passed t → Runs .recoveryRetryWaitExpiry s { s with mon := { s.mon with
            recovery := some { k with stage := .releaseRound }, rounds := s.mon.rounds + 1 } })))
  ∧ (∀ s : State,
    let passed : Time → Nat := fun t => (s.mon.time - t).toNat
    let watching := s.mon.state = .guarding ∧ s.mon.guardStage = some .watching
    let pollDue := watching ∧ (s.stn 1).state = .adopted ∧ s.mon.guardPoll = none
      ∧ ∃ t, s.mon.nextGuardPoll = some t ∧ passed t < 2 ^ 31
    let reprobeDue := watching ∧ (s.stn 1).state = .silent ∧ (s.stn 1).holder = none
      ∧ s.mon.guardReprobe = none ∧ ∃ t, (s.stn 1).reprobeAt = some t ∧ passed t < 2 ^ 31
    (pollDue → Runs .guardPollDue s { s with mon := { s.mon with
        guardPoll := some { stage := .convert, beginTime := s.mon.time, fault := false, quality := 0 }
        nextGuardPoll := some (s.mon.time + 250) } })
    ∧ (¬ pollDue → Runs .guardPollDue s s)
    ∧ (reprobeDue → Runs .guardReprobeDue s
        { s with mon := { s.mon with guardReprobe := some { last := 0, probe := none } } })
    ∧ (¬ reprobeDue → Runs .guardReprobeDue s s)
    ∧ ∀ g, s.mon.guardPoll = some g →
        let late := g.stage ≠ .quality ∧ g.stage ≠ .reading ∧ 200 ≤ passed g.beginTime
        (¬ late → Runs .guardPollTimeout s s)
        ∧ (late → Runs .guardPollTimeout s { s with
            mon := { s.mon with guardPoll := none }
            bus := { s.bus with txn := s.bus.txn.map fun x =>
              { x with orphan := x.orphan || x.activity == .guardPoll } } }))
  ∧ (∀ (s : State) (w : Sweep) (last : Nat) (j : Job) (d : DumpJob), s.JobLaw →
    s.bus.txn = none → s.bus.primitive = none → s.mon.state = .monitoring → s.bus.attnLow = false →
    (∀ a, 1 ≤ a → a ≤ 12 → (s.stn a).owed = 0) → s.sched.jobs = [] →
    s.sched.sweep = some w → w.position = .after last →
    (∀ a, last < a → a ≤ 12 → (s.stn a).state ≠ .adopted) →
    (∀ a, 1 ≤ a → a ≤ 12 → (s.stn a).state ≠ .silent) →
    j ∈ s.req.jobs → j.waitingDump = some d →
    let sched : Scheduler := { s.sched with
      sweepsCompleted := s.sched.sweepsCompleted + 1, owedSweep := false
      sweep := if s.sched.owedSweep then
        some { beginTime := s.mon.time, position := .after 0 } else none }
    let jobs : DumpPhase → List Job := fun phase => s.req.jobs.map fun k =>
      if k.order = j.order then { k with work := .dump { d with phase := phase } } else k
    (d.phase = .waiting true → Runs .linkGrant s { s with
      sched := sched, req := { s.req with jobs := jobs (.waiting false) } })
    ∧ (d.phase = .waiting false → Runs .linkGrant s { s with
        sched := sched
        req := { s.req with
          jobs := jobs (.writing (some w.beginTime))
          capture := (List.range d.count).map fun k => s.chan (d.first + k)
          dumpQueue := s.req.dumpQueue ++ [j.order] } }))
  ∧ (∀ (s : State) (a : Access) (order : Nat) (j : Job) (d : DumpJob) (begun : Time),
    s.mem.inFlight = some a → a.sendable = true → a.kind = .dumpWrite order →
    s.dumpOf order = some (j, d) → d.subject = .channels → d.phase = .writing (some begun) →
    d.count ≤ d.written + 1 →
    ∃ t : State, Runs .dumpWriteDone s t ∧ ∃ w ws,
      t.ring.completionWrites = s.ring.completionWrites ++ w :: ws
      ∧ w.record.status = .ok ∧ w.record.tag = j.tag ∧ w.record.time = begun)
  ∧ (∀ (s : State) (g : GuardPoll), s.mon.state = .guarding → s.mon.guardStage = some .watching →
    s.mon.guardPoll = some g → s.sched.sweep = none →
    s.bus.txn = none → s.bus.primitive = none → s.bus.datLow = false →
    let plan := (s.stn 1).plan
    let control : BitVec 16 → BitVec 16 := fun w =>
      plan.fns.setWidth 16 ||| (plan.attn.setWidth 16 <<< 4) ||| w
    let sends : Nat → Option (BitVec 16) → Purpose → State := fun register data p =>
      { s with bus := { s.bus with
        txn := some { address := 1, register := register, data := data, activity := .guardPoll
                      purpose := p, orphan := false, second := false, phase := .awaiting }
        stuckReported := false, lastFrame := requestFrame 1 register data } }
    (g.stage = .convert → Runs .linkGrant s (sends 3 (some (control 0x0100)) .convertWrite))
    ∧ (g.stage = .poll → Runs .linkGrant s (sends 2 none .statusRead))
    ∧ (g.stage = .replan → Runs .linkGrant s (sends 3 (some (control 0x1000)) (.planWrite plan)))
    ∧ (g.stage = .quality → Runs .linkGrant s (sends 48 none (.qualityRead 0)))
    ∧ (g.stage = .reading → Runs .linkGrant s (sends 16 none (.readingRead 0 0 none)))
    ∧ (∀ since, g.stage = .waiting since → Runs .linkGrant s s))
  ∧ (∀ (s : State) (x : Transaction) (g : GuardPoll) (bits : List Bool), s.bus.txn = some x →
    x.phase = .awaiting → x.activity = .guardPoll → x.orphan = false → x.address = 1 →
    (∀ step plan, x.purpose ≠ .probeStep step plan) → (s.stn 1).state = .adopted →
    s.mon.guardPoll = some g →
    let verdict := judgeResponse x.data.isNone bits
    let leads : Instr → Option GuardPoll → Prop := fun c h => ∃ t : State, Runs c s t
      ∧ t.mon = { s.mon with guardPoll := h }
    (∀ d, verdict = .goodAck d →
      (g.stage = .convert → x.purpose = .convertWrite →
        leads (.responseReceived bits) (some { g with stage := .poll }))
      ∧ (g.stage = .poll → x.purpose = .statusRead →
          (d.getLsbD 4 = true → leads (.responseReceived bits) (some { g with stage := .replan }))
          ∧ (d.getLsbD 4 = false → d.getLsbD 0 = true → leads (.responseReceived bits)
              (some { g with stage := .quality, fault := d.getLsbD 5 }))
          ∧ (d.getLsbD 4 = false → d.getLsbD 0 = false → leads (.responseReceived bits)
              (some { g with stage := .waiting s.mon.time })))
      ∧ (∀ p, g.stage = .replan → x.purpose = .planWrite p →
          leads (.responseReceived bits) (some { g with stage := .convert }))
      ∧ (∀ f, g.stage = .quality → x.purpose = .qualityRead f →
          leads (.responseReceived bits) (some { g with stage := .reading, quality := d }))
      ∧ (∀ f p, g.stage = .reading → x.purpose = .readingRead f p none →
          let valid : Prop := qualityOf g.quality 0 = .valid ∧ g.fault = false
          let hot := s.raiseCause .guardHot 1
          let cool : State := { s with trip := { s.trip with guardQualified := true } }
          let becomes : State → Prop := fun y => ∃ t : State, Runs (.responseReceived bits) s t
            ∧ t.mon = { s.mon with guardPoll := none }
            ∧ t = { y with mon := t.mon, bus := t.bus, stations := t.stations }
          (¬ valid → becomes s)
          ∧ (valid → 1760 ≤ d.toInt →
              becomes { hot with trip := { hot.trip with guardQualified := false } })
          ∧ (valid → d.toInt < 1760 →
              (s.trip.latch = .rearmWait → becomes cool.releaseTest)
              ∧ (s.trip.latch ≠ .rearmWait → becomes s))))
    ∧ (∀ c, c = .responseReceived bits ∧ verdict = .goodNak
          ∨ x.second = true ∧ (c = .responseWindowExpiry
            ∨ c = .responseReceived bits ∧ verdict = .corrupt) →
        (∃ t : State, Runs c s t ∧ t.mon.guardPoll = none
          ∧ (t.mon.guardActive = true → (t.stn 1).state ≠ .adopted → t.mon.nextGuardPoll = none))
        ∧ (verdict ≠ .goodNak → (s.stn 1).missCount < 2 → leads c none)))

/-- R107: the first FRESH_READ of the queue whose 200 ms are over ends TIMEOUT: it leaves the queue
and its slot, its transaction goes on without it, and its channel keeps its condition; the SYNCs that
waited for it alone complete after it (O36). That one command ends one job is the model's choice (log
entry 11), and that it is over from exactly 200 ms on is the model's reading (log entry 17). R104,
R105: on an idle link, with nothing of a higher rank, the running FRESH_READ checks its channel before
each transaction: NOT_BOUND, STATION_LOST, or the transaction of its stage, and the stage that its
outcome leads to. R106: a reading taken for its channel after its convert-now was acknowledged
completes it OK with what the channel then holds. R108: RESCAN probes the addresses of its set in
ascending order and completes OK after the last; a probe whose hold has been taken is given up for the
next address. That a job whose check fails, or whose walk has nothing left, ends at the grant itself, which then
issues no transaction and leaves the link to the next grant, is the model's choice (log entry 23). The
premises name the states in which the job's rank is served and no other work is due.
That a poll which shows RESET_DONE clears the acknowledged mark is the model's reading (log entry 13),
and so is that the issue of the job's QUALITY read, which changes no station's record, leaves the
raised-again mark as it is (log entry 12). -/
def Obligations.FreshReadTimesOut : Prop :=
  (∀ s : State,
    let late : LinkJob → Prop := fun j => j.abandoned = false
      ∧ ∃ f, j.work = .fresh f ∧ 200 ≤ (s.mon.time - f.taken).toNat
    ((∀ j ∈ s.sched.jobs, ¬ late j) → Runs .freshReadTimeout s s)
    ∧ ∀ js j ks, s.JobLaw → s.sched.jobs = js ++ j :: ks → (∀ k ∈ js, ¬ late k) → late j →
        ((∀ k ∈ s.req.jobs, ∀ ws, k.work ≠ .sync ws) →
        ∃ t : State, Runs .freshReadTimeout s t
          ∧ t.sched = { s.sched with jobs := js ++ ks }
          ∧ t.req = { s.req with
              jobs := s.req.jobs.filter fun k => k.order != j.order, taken := s.req.taken - 1 }
          ∧ (∃ w, t.ring.completionWrites = s.ring.completionWrites ++ [w]
            ∧ w.record.status = .timeout
            ∧ ∃ k ∈ s.req.jobs, k.order = j.order ∧ w.record.tag = k.tag
              ∧ ∀ g, k.work = .link g → w.record.generation = g)
          ∧ t.bus = { s.bus with txn := t.bus.txn }
          ∧ (∀ x, s.bus.txn = some x → t.bus.txn = some { x with
              orphan := x.orphan || (js.isEmpty && x.activity == .job) })
          ∧ t = { s with sched := t.sched, req := t.req, bus := t.bus, ring := { s.ring with
              completionWrites := t.ring.completionWrites, completionTail := t.ring.completionTail
              completionLap := t.ring.completionLap } })
        ∧ ∃ (t : State) (k : Job) (g : BitVec 8), Runs .freshReadTimeout s t
          ∧ k ∈ s.req.jobs ∧ k.order = j.order ∧ k.work = .link g
          ∧ (let e := s.endJob j.order
              { Completion.plain (byteOf k.kind.code) k.tag .timeout with generation := g }
            t = { s with
              sched := { s.sched with jobs := js ++ ks }, req := e.req, ring := e.ring
              bus := t.bus })
          ∧ t.bus = { s.bus with txn := s.bus.txn.map fun x =>
              { x with orphan := x.orphan || (js.isEmpty && x.activity == .job) } })
  ∧ (∀ (s : State) (j : LinkJob) (js : List LinkJob), s.JobLaw →
    s.bus.txn = none → s.bus.primitive = none → s.bus.datLow = false →
    s.mon.state = .monitoring → s.bus.attnLow = false →
    (∀ a, 1 ≤ a → a ≤ 12 → (s.stn a).owed = 0) →
    s.sched.jobs = j :: js → j.abandoned = false →
    let sends : State → Nat → Nat → Option (BitVec 16) → Purpose → State :=
      fun x a register data p => { x with bus := { x.bus with
        txn := some { address := a, register := register, data := data, activity := .job
                      purpose := p, orphan := false, second := false, phase := .awaiting }
        stuckReported := false, lastFrame := requestFrame a register data } }
    let ends : Status → Prop := fun status => ∃ (k : Job) (g : BitVec 8),
      k ∈ s.req.jobs ∧ k.order = j.order ∧ k.work = .link g
      ∧ (let e := s.endJob j.order
          { Completion.plain (byteOf k.kind.code) k.tag status with generation := g }
        Runs .linkGrant s { s with
          sched := { s.sched with jobs := js }, req := e.req, ring := e.ring })
    let control : Plan → BitVec 16 → BitVec 16 := fun p w =>
      p.fns.setWidth 16 ||| (p.attn.setWidth 16 <<< 4) ||| w
    (∀ f, j.work = .fresh f → (∀ u, f.stage ≠ .waiting u) →
      let c := s.chan f.channel
      (c.binding = none ∨ c.generation ≠ f.generation → ends .notBound)
      ∧ ∀ b, c.binding = some b → c.generation = f.generation →
          let a := b.loc.station
          let plan := (s.stn a).plan
          let reachable := (s.stn a).state = .adopted
            ∧ (s.stn a).hasPoint b.loc.fn b.loc.point = true
          (¬ reachable → ends .stationLost)
          ∧ (reachable →
              (f.stage = .convert → Runs .linkGrant s (sends s a 3
                (some (control plan (BitVec.twoPow 16 (8 + b.loc.fn)))) .convertWrite))
              ∧ (f.stage = .poll → Runs .linkGrant s (sends s a 2 none .statusRead))
              ∧ (f.stage = .replan → Runs .linkGrant s (sends s a 3
                  (some (control plan 0x1000)) (.planWrite plan)))
              ∧ (f.stage = .quality → Runs .linkGrant s
                  (sends s a (48 + b.loc.fn) none (.qualityRead b.loc.fn)))
              ∧ (f.stage = .reading → Runs .linkGrant s (sends s a
                  (16 + 8 * b.loc.fn + b.loc.point) none (.readingRead b.loc.fn b.loc.point
                    (some { channel := f.channel, generation := f.generation
                            quality := f.quality.map (qualityOf · b.loc.point)
                            fault := f.fault }))))))
    ∧ (∀ f u, j.work = .fresh f → f.stage = .waiting u → s.sched.sweep = none →
        Runs .linkGrant s s)
    ∧ (∀ set w, j.work = .rescan set w → w.probe = none →
        ((∀ a, w.last < a → 1 ≤ a → a ≤ 12 → set.getLsbD (a - 1) = false) → ends .ok)
        ∧ ∀ a, w.last < a → 1 ≤ a → a ≤ 12 → set.getLsbD (a - 1) = true →
            (∀ b, w.last < b → b < a → 1 ≤ b → set.getLsbD (b - 1) = false) →
            let probe : Probe := { address := a, step := .id0, written := { fns := 0, attn := 0 } }
            Runs .linkGrant s (sends { (s.setStn a { s.stn a with holder := some .job }) with
              sched := { s.sched with jobs :=
                { j with work := .rescan set { last := a - 1, probe := some probe } } :: js } }
              a 0 none (.probeStep .id0 { fns := 0, attn := 0 })))
    ∧ (∀ set last p, j.work = .rescan set { last := last, probe := some p } →
        1 ≤ p.address → p.address ≤ 12 → last = p.address - 1 →
        (s.stn p.address).holder = some .job →
        (p.step = .id1 → Runs .linkGrant s
          (sends s p.address 1 none (.probeStep .id1 p.written)))
        ∧ (p.step = .control →
            let plan := s.derivedPlan p.address
            let walk : ProbeWalk := { last := last, probe := some { p with written := plan } }
            Runs .linkGrant s (sends { s.rederive p.address with
              sched := { s.sched with jobs := { j with work := .rescan set walk } :: js } }
              p.address 3 (some (control plan 0x1000)) (.probeStep .control plan)))
        ∧ (p.step = .status → Runs .linkGrant s
            (sends s p.address 2 none (.probeStep .status p.written))))
    ∧ (∀ set w p t, j.work = .rescan set w → w.probe = some p →
        (s.stn p.address).holder ≠ some .job →
        Runs .linkGrant { s with sched := { s.sched with jobs :=
          { j with work := .rescan set { last := p.address, probe := none } } :: js } } t →
        Runs .linkGrant s t))
  ∧ (∀ (s : State) (x : Transaction) (j : LinkJob) (js : List LinkJob) (f : FreshRead)
      (b : Binding) (bits : List Bool), s.bus.txn = some x → x.phase = .awaiting →
    x.activity = .job → x.orphan = false → s.sched.jobs = j :: js → j.abandoned = false →
    j.work = .fresh f → (s.chan f.channel).binding = some b → b.loc.station = x.address →
    b.loc.fn < 4 → (s.stn x.address).state = .adopted →
    let leads : Instr → FreshRead → Prop := fun c g => ∃ t : State, Runs c s t
      ∧ t.sched.jobs = { j with work := .fresh g } :: js
    (∀ d, judgeResponse x.data.isNone bits = .goodAck d →
      (f.stage = .convert → x.purpose = .convertWrite →
        leads (.responseReceived bits) { f with acked := true, flagSeen := false, stage := .poll })
      ∧ (f.stage = .poll → x.purpose = .statusRead →
          let seen := f.flagSeen = true ∨ (f.acked = true ∧ d.getLsbD b.loc.fn = true)
          (d.getLsbD 4 = true → leads (.responseReceived bits)
            { f with acked := false, flagSeen := false, stage := .replan })
          ∧ (d.getLsbD 4 = false → seen → leads (.responseReceived bits)
              { f with flagSeen := true, stage := .quality, fault := d.getLsbD 5 })
          ∧ (d.getLsbD 4 = false → ¬ seen → leads (.responseReceived bits)
              { f with stage := .waiting s.mon.time }))
      ∧ (∀ p, f.stage = .replan → x.purpose = .planWrite p →
          leads (.responseReceived bits) { f with stage := .convert })
      ∧ (∀ fn, f.stage = .quality → x.purpose = .qualityRead fn →
          leads (.responseReceived bits) { f with stage := .reading, quality := some d }))
    ∧ (x.second = true → (s.stn x.address).missCount < 2 →
        (∀ step plan, x.purpose ≠ .probeStep step plan) →
        leads .responseWindowExpiry (match f.stage with
          | .convert | .quality | .waiting _ => f
          | .poll => { f with stage := .waiting s.mon.time, fault := false }
          | .replan => { f with stage := .convert }
          | .reading => { f with stage := .quality })))
  ∧ (∀ (s : State) (x : Transaction) (j : LinkJob) (js : List LinkJob) (f : FreshRead)
      (b : Binding) (fn p : Nat) (tag : ReadingTag) (q : Quality) (d : BitVec 16)
      (bits : List Bool), s.JobLaw → s.bus.txn = some x → x.phase = .awaiting →
    (x.activity = .job ∨ x.activity = .sweep ∨ x.activity = .attention) → x.data = none →
    x.purpose = .readingRead fn p (some tag) → tag.quality = some q →
    judgeResponse true bits = .goodAck d → s.mon.state = .monitoring →
    (s.chan tag.channel).binding = some b → (s.chan tag.channel).generation = tag.generation →
    (s.chan tag.channel).condition ≠ .unreachable →
    s.sched.jobs = j :: js → (∀ k ∈ j :: js, k.abandoned = false) → j.work = .fresh f →
    f.acked = true → f.channel = tag.channel → f.generation = tag.generation →
    ∃ t : State, Runs (.responseReceived bits) s t ∧ t.sched.jobs = js
      ∧ (∀ k ∈ t.req.jobs, k.order ≠ j.order)
      ∧ ∃ k ∈ s.req.jobs, k.order = j.order
        ∧ ∃ w ∈ t.ring.completionWrites.drop s.ring.completionWrites.length,
          let c := t.chan tag.channel
          w.record = { Completion.plain (byteOf k.kind.code) k.tag .ok with
            generation := f.generation, head := BitVec.ofNat 16 s.ring.requestHead
            value := d, quality := q, time := s.mon.time
            stateOrCondition := c.condition.code, reason := c.reason })
  ∧ (∀ (s : State) (x : Transaction) (j : LinkJob) (js : List LinkJob) (set : BitVec 12)
      (w : ProbeWalk) (step : ProbeStep) (written : Plan) (bits : List Bool), s.JobLaw →
    s.bus.txn = some x → x.phase = .awaiting → x.activity = .job → x.orphan = false →
    1 ≤ x.address → x.address ≤ 12 → x.purpose = .probeStep step written →
    (s.stn x.address).holder = some .job →
    s.sched.jobs = j :: js → (∀ k ∈ j :: js, k.abandoned = false) → j.work = .rescan set w →
    let a := x.address
    let more : Prop := ∃ b, a < b ∧ b ≤ 12 ∧ set.getLsbD (b - 1) = true
    let walk : ProbeWalk :=
      { last := a - 1, probe := some { address := a, step := .status, written := written } }
    let closes : Instr → Prop := fun c => ∃ t : State, Runs c s t ∧ (t.stn a).holder = none
      ∧ (more → t.sched.jobs
          = { j with work := .rescan set { last := a, probe := none } } :: js)
      ∧ (¬ more → t.sched.jobs = js ∧ (∀ k ∈ t.req.jobs, k.order ≠ j.order)
          ∧ ∃ k ∈ s.req.jobs, k.order = j.order
            ∧ ∃ v ∈ t.ring.completionWrites.drop s.ring.completionWrites.length,
              v.record.status = .ok ∧ v.record.tag = k.tag
              ∧ v.record.kind = byteOf k.kind.code)
    (∀ d, judgeResponse x.data.isNone bits = .goodAck d →
      (step = .control → ∃ t : State, Runs (.responseReceived bits) s t
        ∧ t.sched.jobs = { j with work := .rescan set walk } :: js)
      ∧ (step = .status → closes (.responseReceived bits)))
    ∧ ((s.stn a).state ≠ .adopted →
        (judgeResponse x.data.isNone bits = .goodNak → closes (.responseReceived bits))
        ∧ (x.second = true → closes .responseWindowExpiry)
        ∧ ∀ d, judgeResponse x.data.isNone bits = .goodAck d →
            (step = .id0 → (d.extractLsb' 8 8).toNat < 1 ∨ 5 < (d.extractLsb' 8 8).toNat →
              closes (.responseReceived bits))
            ∧ (step = .id1 → ((d.extractLsb' 0 4).toNat < 1 ∨ 4 < (d.extractLsb' 0 4).toNat
                ∨ (d.extractLsb' 4 4).toNat < 1 ∨ 8 < (d.extractLsb' 4 4).toNat
                ∨ ∃ fp, (s.stn a).fingerprint = some fp
                  ∧ ((s.stn a).classRev ≠ some fp.classRev
                    ∨ fp.shape ≠ { fns := d.extractLsb' 0 4, pts := d.extractLsb' 4 4 })) →
              closes (.responseReceived bits))))

/-! ## The link arbiter -/

/-- R88, R89, R116: a grant is made on an idle link alone, to the highest rank with work; the
transaction it issues is at its first attempt, and its frame is sent at once unless DB_DAT is low.
SETUP has work in guard start-up, in ENUMERATING, and in recovery and guard line recovery but for the
retry wait; ATTENTION in MONITORING while attention is not stuck, if DB_ATTN is low with attention use
on or an ADOPTED station owes an attention-enabled flag; JOB in MONITORING if the head of the queue
is not waiting out its 2 ms, and has not been abandoned at a halt (log entry 20); SWEEP if a sweep is
present, or in GUARD while watching. -/
def Obligations.LinkGrantServesTheHighestRank : Prop :=
  ∀ s : State,
    let recovers : Prop := ∃ v, s.mon.recovery = some v ∧ ∀ since, v.stage ≠ .retryWait since
    let setup : Prop :=
      (s.mon.state = .guarding ∧ ((∃ sent p, s.mon.guardStage = some (.startup sent p))
        ∨ (s.mon.guardStage = some .lineRecovery ∧ recovers)))
      ∨ (s.mon.state = .enumerating ∧ s.mon.enumeration ≠ none)
      ∨ (s.mon.state = .recovering ∧ recovers)
    let attention : Prop := s.mon.state = .monitoring ∧ s.sched.attnStuck = false
      ∧ ((s.bus.attnLow = true ∧ s.mon.params.attentionUse = true)
        ∨ ∃ a, 1 ≤ a ∧ a ≤ 12 ∧ (s.stn a).state = .adopted
          ∧ ∃ f < 4, (s.stn a).owed.getLsbD f = true ∧ (s.stn a).plan.attn.getLsbD f = true)
    let job : Prop := s.mon.state = .monitoring ∧ ∃ j js, s.sched.jobs = j :: js
      ∧ j.abandoned = false ∧ ∀ f since, j.work = .fresh f → f.stage ≠ .waiting since
    (s.bus.txn ≠ none ∨ s.bus.primitive ≠ none → Runs .linkGrant s s)
    ∧ ∀ t x, s.bus.txn = none → s.bus.primitive = none → Runs .linkGrant s t → t.bus.txn = some x →
        x.second = false ∧ x.orphan = false
        ∧ (s.bus.datLow = false → x.phase = .awaiting
          ∧ t.bus.lastFrame = requestFrame x.address x.register x.data)
        ∧ (s.bus.datLow = true → x.phase = .startCheck ∧ t.bus.lastFrame = s.bus.lastFrame)
        ∧ t.bus = { s.bus with
            txn := t.bus.txn, stuckReported := t.bus.stuckReported, lastFrame := t.bus.lastFrame }
        ∧ (setup → x.activity = .guardStartup ∨ x.activity = .enumeration ∨ x.activity = .recovery)
        ∧ (¬ setup → attention → x.activity = .attention)
        ∧ (¬ setup → ¬ attention → job → x.activity = .job)
        ∧ (¬ setup → ¬ attention → ¬ job → s.sched.sweep ≠ none → x.activity = .sweep)
        ∧ (¬ setup → ¬ attention → ¬ job → s.sched.sweep = none →
            s.mon.state = .guarding ∧ s.mon.guardStage = some .watching
            ∧ (x.activity = .guardPoll ∨ x.activity = .guardReprobe))

/-- R70, R84, R90, R95, R96, R98, R132: what a grant issues: the first step of the guard start-up
probe; the first transaction of a sweep's next visit, a STATUS read or the plan write with
ACK_RESET; and a sweep with nothing left completes. R67 to R71, R90, R132, R134, R140, R142: the next
step of the probe that start-up, enumeration, recovery or guard reprobe makes, at the next address where
none is held. R85, R86, R91, R96, R97: the later transactions of a sweep's visit: STATUS, the plan write,
the QUALITY of the next enabled function, at whose issue its raised-again mark is cleared, and the READING
of its next bound point, tagged with the channel and what the visit saw; with nothing left the sweep goes
on to the next address. R79, R98: its reprobes, and a probe whose hold has been taken is given up for the
next. R99, R100: a pass visits the next station with an attention enable or an acknowledged FRESH_READ,
and reads the functions that are owed and enabled. R85, R96: where a visit's function has been read whole,
all DONE, and is not reported yet, its last unread channel having been retired before its turn, the grant
reports it first: the owed flag is cleared unless it has been raised again, and the visit goes on. That the
report waits for the grant and is made once is the model's reading (log entry 22), that an activity with
nothing left ends at a grant that issues no transaction is its choice (log entry 23), and so is the test of
the raised-again mark (log entries 29 and 39). R99, R101, R102: a grant to attention with no
station to visit makes an empty pass: it is counted, and the third in a row marks attention stuck,
with ATTN_STUCK handed. The last frame sent is the model's own observation (log entry 16), and the
half-range test of the reprobe time that of R79. -/
def Obligations.LinkGrantIssuesTheNextTransaction : Prop :=
  (∀ s : State, s.bus.txn = none → s.bus.primitive = none → s.bus.datLow = false →
    let sends : State → Nat → Nat → Option (BitVec 16) → Activity → Purpose → State :=
      fun x a register data act p =>
        let y : Transaction :=
          { address := a, register := register, data := data, activity := act, purpose := p
            orphan := false, second := false, phase := .awaiting }
        { x with bus := { x.bus with
          txn := some y, stuckReported := false, lastFrame := requestFrame a register data } }
    let empty : Plan := { fns := 0, attn := 0 }
    let probe : Probe := { address := 1, step := .id0, written := empty }
    let control : Plan → BitVec 16 := fun p =>
      p.fns.setWidth 16 ||| (p.attn.setWidth 16 <<< 4) ||| 0x1000
    let steps : Activity → Probe → (State → Probe → State) → Prop := fun act p put =>
      let a := p.address
      let plan := s.derivedPlan a
      (p.step = .id0 → Runs .linkGrant s (sends (put (s.setStn a { s.stn a with holder := some act }) p)
        a 0 none act (.probeStep .id0 p.written)))
      ∧ (p.step = .id1 → Runs .linkGrant s (sends (put s p) a 1 none act (.probeStep .id1 p.written)))
      ∧ (p.step = .control → Runs .linkGrant s (sends (put (s.rederive a) { p with written := plan })
          a 3 (some (control plan)) act (.probeStep .control plan)))
      ∧ (p.step = .status → Runs .linkGrant s
          (sends (put s p) a 2 none act (.probeStep .status p.written)))
    let next : Activity → (Nat → Prop) → ProbeWalk → Probe → Prop := fun act masked w p =>
      w.probe = some p ∧ (s.stn p.address).holder = some act
      ∨ p = { address := p.address, step := .id0, written := empty } ∧ masked p.address
        ∧ ∃ last, (w.probe = none ∧ last = w.last
            ∨ ∃ r, w.probe = some r ∧ (s.stn r.address).holder ≠ some act ∧ last = r.address)
          ∧ last < p.address ∧ ∀ b, last < b → b < p.address → 1 ≤ b → ¬ masked b
    let inMask : Nat → Prop := fun b => s.mon.params.stationMask.getLsbD (b - 1) = true
    let visit : Activity → (Station → Nat → Prop) → Visit → (Nat → State) → (Visit → State) → Prop :=
      fun act reads v after visiting =>
        let a := v.address
        let q := s.stn a
        let opens : State → Station → Nat → Prop := fun x r k => ∀ f < 4, k ≤ f → reads r f →
          (∀ g, k ≤ g → g < f → ¬ reads r g) →
          Runs .linkGrant s
            (sends (x.setStn a { r with raisedAgain := r.raisedAgain &&& ~~~(BitVec.twoPow 4 f) })
              a (48 + f) none act (.qualityRead f))
        let closed : Nat → Prop := fun k => ∀ f < 4, k ≤ f → ¬ reads q f
        let passesOn : Prop := ∀ t, Runs .linkGrant (after a) t → Runs .linkGrant s t
        (v.stage = .status → Runs .linkGrant s (sends s a 2 none act .statusRead))
        ∧ (v.stage = .replan → Runs .linkGrant s
            (sends s a 3 (some (control q.plan)) act (.planWrite q.plan)))
        ∧ (v.stage = .functions → opens s q 0 ∧ (closed 0 → passesOn))
        ∧ ∀ f last, v.stage = .inFunction f last →
            let left : Nat → Prop := fun p => p < 8 ∧ q.hasPoint f p = true
              ∧ (∀ l, last = some l → l < p)
              ∧ ∃ n < 128, (s.chan n).loc = some { station := a, fn := f, point := p }
            (∀ p n, left p → (∀ o < p, ¬ left o) → n < 128 →
              (s.chan n).loc = some { station := a, fn := f, point := p } →
              (∀ m < n, (s.chan m).loc ≠ some { station := a, fn := f, point := p }) →
              Runs .linkGrant s (sends s a (16 + 8 * f + p) none act (.readingRead f p
                (some { channel := n, generation := (s.chan n).generation
                        quality := v.quality.map (qualityOf · p), fault := v.fault }))))
            ∧ ((∀ p, ¬ left p) → v.allDone = false ∨ v.reported = true →
                opens s q (f + 1) ∧ (closed (f + 1) → passesOn))
            ∧ ((∀ p, ¬ left p) → v.allDone = true → v.reported = false →
                let r : Station := if q.raisedAgain.getLsbD f = true then q
                  else { q with owed := q.owed &&& ~~~(BitVec.twoPow 4 f) }
                opens (visiting { v with reported := true }) r (f + 1)
                ∧ (closed (f + 1) → ∀ t, Runs .linkGrant (after a) t →
                    Runs .linkGrant s (t.setStn a { t.stn a with owed := r.owed })))
    let begins : Nat → Visit := fun a =>
      { address := a, stage := .begin, fault := false, quality := none, allDone := false
        reported := false }
    (s.mon.state = .guarding → s.mon.guardStage = some (.startup true none) →
      Runs .linkGrant s (sends { (s.setStn 1 { s.stn 1 with holder := some .guardStartup }) with
          mon := { s.mon with guardStage := some (.startup true (some probe)) } }
        1 0 none .guardStartup (.probeStep .id0 empty)))
    ∧ (∀ p, 1 ≤ p.address → p.address ≤ 12 →
        (∀ sent, s.mon.state = .guarding → s.mon.guardStage = some (.startup true sent) →
          next .guardStartup (· = 1) { last := 0, probe := sent } p →
          steps .guardStartup p fun x r =>
            { x with mon := { x.mon with guardStage := some (.startup true (some r)) } })
        ∧ (∀ w, s.mon.state = .enumerating → s.mon.enumeration = some w →
            next .enumeration inMask w p → steps .enumeration p fun x r =>
              { x with mon := { x.mon with
                enumeration := some { last := p.address - 1, probe := some r } } })
        ∧ (∀ k w, s.mon.recovery = some k → k.stage = .probing w →
            (s.mon.state = .recovering ∧ next .recovery inMask w p
              ∨ s.mon.state = .guarding ∧ s.mon.guardStage = some .lineRecovery
                ∧ next .recovery (· = 1) w p) →
            steps .recovery p fun x r =>
              let walk : ProbeWalk := { last := p.address - 1, probe := some r }
              { x with mon := { x.mon with recovery := some { k with stage := .probing walk } } })
        ∧ (∀ w, s.mon.state = .guarding → s.mon.guardStage = some .watching →
            s.sched.sweep = none → s.mon.guardPoll = none → s.mon.guardReprobe = some w →
            next .guardReprobe (· = 1) w p → steps .guardReprobe p fun x r =>
              { x with mon := { x.mon with
                guardReprobe := some { last := p.address - 1, probe := some r } } }))
    ∧ (∀ w, s.mon.state = .monitoring →
        (s.sched.attnStuck = true ∨ (s.bus.attnLow = false ∨ s.mon.params.attentionUse = false)
          ∧ ∀ a, 1 ≤ a → a ≤ 12 → (s.stn a).state = .adopted →
            (s.stn a).owed &&& (s.stn a).plan.attn = 0) →
        (∀ j js, s.sched.jobs = j :: js → j.abandoned = true
          ∨ ∃ f since, j.work = .fresh f ∧ f.stage = .waiting since) →
        s.sched.sweep = some w →
        let at_ : SweepPosition → State → State := fun pos x =>
          { x with sched := { s.sched with sweep := some { w with position := pos } } }
        let visited : Nat → Prop := fun b => (s.stn b).state = .adopted
          ∧ ((s.stn b).plan ≠ empty ∨ (s.stn b).planApplied = false)
        let due : Nat → Prop := fun b => (s.stn b).state = .silent ∧ (s.stn b).holder = none
          ∧ ∃ t, (s.stn b).reprobeAt = some t ∧ (s.mon.time - t).toNat < 2 ^ 31
        (∀ v, w.position = .visiting v → (s.stn v.address).state = .adopted →
          visit .sweep (fun q f => q.plan.fns.getLsbD f = true) v (fun a => at_ (.after a) s)
            fun u => at_ (.visiting u) s)
        ∧ ∀ p, 1 ≤ p.address → p.address ≤ 12 →
            (w.position = .probing p ∧ (s.stn p.address).holder = some .sweep
              ∨ p = { address := p.address, step := .id0, written := empty } ∧ due p.address
                ∧ ∃ last, (w.position = .reprobesAfter last
                    ∨ (∃ r, w.position = .probing r ∧ (s.stn r.address).holder ≠ some .sweep
                      ∧ last = r.address)
                    ∨ ∃ l, w.position = .after l ∧ last = 0
                      ∧ ∀ b, l < b → 1 ≤ b → b ≤ 12 → ¬ visited b)
                  ∧ last < p.address ∧ ∀ b, last < b → b < p.address → 1 ≤ b → ¬ due b) →
            steps .sweep p fun x r => at_ (.probing r) x)
    ∧ (s.mon.state = .monitoring → s.sched.attnStuck = false →
        (s.bus.attnLow = true ∧ s.mon.params.attentionUse = true
          ∨ ∃ a, 1 ≤ a ∧ a ≤ 12 ∧ (s.stn a).state = .adopted
            ∧ (s.stn a).owed &&& (s.stn a).plan.attn ≠ 0) →
        let at_ : PassPosition → Bool → State := fun pos found =>
          { s with sched := { s.sched with pass := some { position := pos, foundFlag := found } } }
        let attended : Nat → Prop := fun b => (s.stn b).state = .adopted
          ∧ ((s.stn b).plan.attn ≠ 0 ∨ ∃ j js f, s.sched.jobs = j :: js ∧ j.work = .fresh f
            ∧ f.acked = true ∧ (s.chan f.channel).onStation b = true)
        (∀ p v, s.sched.pass = some p → p.position = .visiting v →
          (s.stn v.address).state = .adopted →
          visit .attention (fun q f => q.owed.getLsbD f = true ∧ q.plan.attn.getLsbD f = true) v
            (fun a => at_ (.after a) p.foundFlag) fun u => at_ (.visiting u) p.foundFlag)
        ∧ ∀ a last found, (s.sched.pass = none ∧ last = 0 ∧ found = false
              ∨ s.sched.pass = some { position := .after last, foundFlag := found }) →
            last < a → 1 ≤ a → a ≤ 12 → attended a →
            (∀ b, last < b → 1 ≤ b → b < a → ¬ attended b) →
            let x := at_ (.visiting (begins a)) found
            let plan := (s.stn a).plan
            ((s.stn a).planApplied = true →
              Runs .linkGrant s (sends x a 2 none .attention .statusRead))
            ∧ ((s.stn a).planApplied = false → Runs .linkGrant s
                (sends x a 3 (some (control plan)) .attention (.planWrite plan))))
    ∧ ∀ w last, s.mon.state = .monitoring → s.bus.attnLow = false →
        (∀ a, 1 ≤ a → a ≤ 12 → (s.stn a).owed = 0) → s.sched.jobs = [] →
        s.sched.sweep = some w → w.position = .after last →
        (∀ a, last < a → a ≤ 12 → (s.stn a).state = .adopted →
          (∀ b, last < b → b < a → (s.stn b).state ≠ .adopted) →
          let x : State := { s with sched := { s.sched with
            sweep := some { w with position := .visiting (begins a) } } }
          let plan := (s.stn a).plan
          ((s.stn a).planApplied = true → plan.fns ≠ 0 →
            Runs .linkGrant s (sends x a 2 none .sweep .statusRead))
          ∧ ((s.stn a).planApplied = false → Runs .linkGrant s
              (sends x a 3 (some (control plan)) .sweep (.planWrite plan))))
        ∧ ((∀ a, last < a → a ≤ 12 → (s.stn a).state ≠ .adopted) →
            (∀ a, 1 ≤ a → a ≤ 12 → (s.stn a).state ≠ .silent) →
            (∀ j ∈ s.req.jobs, j.waitingDump = none) →
            Runs .linkGrant s { s with sched := { s.sched with
              sweepsCompleted := s.sched.sweepsCompleted + 1, owedSweep := false
              sweep := if s.sched.owedSweep then
                some { beginTime := s.mon.time, position := .after 0 } else none } }))
  ∧ (∀ s : State, s.bus.txn = none → s.bus.primitive = none → s.mon.state = .monitoring →
    s.sched.attnStuck = false → s.bus.attnLow = true → s.mon.params.attentionUse = true →
    s.sched.pass = none → s.sched.jobs = [] → (∀ a, 1 ≤ a → a ≤ 12 → (s.stn a).plan.attn = 0) →
    let k := { s.sched with attentionPasses := s.sched.attentionPasses + 1 }
    (s.sched.emptyPasses < 2 → Runs .linkGrant s
      { s with sched := { k with emptyPasses := s.sched.emptyPasses + 1 } })
    ∧ (2 ≤ s.sched.emptyPasses → Runs .linkGrant s (State.notify
        { s with
          sched := { k with attnStuck := true, emptyPasses := 0 }
          mon := { s.mon with attnPartStuck := true } }
        { source := .link, generation := 0
          before := byteOf (linkCode s.mon.lineFaulted s.mon.attnPartStuck)
          after := byteOf (linkCode s.mon.lineFaulted true), detail := 0, value := 0
          time := s.mon.time, classUrgent := false })))

/-- R127, R128, R142: a grant to the monitor controller's primitives: a release sequence; and a
broadcast reset, whose frame is sent unless DB_DAT is low. What the reports of the primitives then
do: a line still stuck is retried after a wait, a clear line leads to the broadcast reset, and a
settle that has ended leads to probing. R138, R144: a primitive whose report is to be discarded only ends,
whatever the monitor's state: no report is acted on; where it is a broadcast reset that waits at its start
check, the timeout still reports LINE_STUCK unless it is reported, as the line monitor does (O59), and no
more. R135: guard line
recovery runs the same rounds. R132: guard start-up begins with the broadcast reset; its settle leads to
the probe of address 1, and one not sent to guard line recovery, where the LINE_STUCK report itself,
if it is not made already, begins it (R128, R135). That a round is counted as it begins is the model's
reading (log entry 22); the last frame sent is the model's own observation (log entry 16). -/
def Obligations.PrimitivesRunAndReport : Prop :=
  (∀ (s : State) (p : Primitive), s.bus.primitive = some p → p.discard = true →
    let ended : State := { s with bus := { s.bus with
      primitive := none, stuckReported := s.bus.stuckReported && s.bus.datLow } }
    (p.kind = .release → Runs .releaseSequenceEnd s ended)
    ∧ (p.kind = .broadcastSettle → Runs .broadcastResetSettleEnd s ended)
    ∧ (p.kind = .broadcastStartCheck → s.bus.txn = none → s.bus.datLow = true → ∀ b,
        let idle : State := { s with bus := { s.bus with primitive := none } }
        (s.bus.stuckReported = true ∨ s.mon.state = .stopped → Runs (.startCheckTimeout b) s
          { s with bus := { s.bus with primitive := none, stuckReported := true } })
        ∧ ∀ t, Runs .lineMonitorStuck idle t → Runs (.startCheckTimeout b) s t)) ∧
  (∀ (s : State) (k : Recovery), s.mon.state = .recovering
      ∨ s.mon.state = .guarding ∧ s.mon.guardStage = some .lineRecovery → s.mon.recovery = some k →
    let stage : State → RecoveryStage → State := fun x q =>
      { x with mon := { s.mon with recovery := some { k with stage := q } } }
    let ended : State := { s with bus := { s.bus with
      primitive := none, stuckReported := s.bus.stuckReported && s.bus.datLow } }
    (s.bus.txn = none → s.bus.primitive = none →
      (k.stage = .releaseRound → Runs .linkGrant s
        { s with bus := { s.bus with primitive := some { kind := .release, discard := false } } })
      ∧ (k.stage = .broadcastReset → s.bus.datLow = true → Runs .linkGrant s
          { s with bus := { s.bus with
            primitive := some { kind := .broadcastStartCheck, discard := false } } })
      ∧ (k.stage = .broadcastReset → s.bus.datLow = false → Runs .linkGrant s
          { s with bus := { s.bus with
            primitive := some { kind := .broadcastSettle, discard := false }
            stuckReported := false
            lastFrame := withCheck ([false, false, false, false, true, false]
              ++ List.replicate 6 false) } }))
    ∧ (∀ p, s.bus.primitive = some p → p.kind = .release →
        (p.discard = true → Runs .releaseSequenceEnd s ended)
        ∧ (p.discard = false → k.stage = .releaseRound →
            (s.bus.datLow = true →
              Runs .releaseSequenceEnd s (stage ended (.retryWait s.mon.time)))
            ∧ (s.bus.datLow = false → Runs .releaseSequenceEnd s (stage ended .broadcastReset))))
    ∧ (∀ p, s.bus.primitive = some p → p.kind = .broadcastSettle →
        (p.discard = true → Runs .broadcastResetSettleEnd s ended)
        ∧ (p.discard = false → k.stage = .broadcastReset → Runs .broadcastResetSettleEnd s
            (stage ended (.probing { last := 0, probe := none }))))
    ∧ (∀ p b, s.bus.txn = none → s.bus.primitive = some p → p.kind = .broadcastStartCheck →
        s.bus.datLow = true → p.discard = false → k.stage = .broadcastReset →
        Runs (.startCheckTimeout b) s { s with
          bus := { s.bus with primitive := none, stuckReported := true }
          mon := { s.mon with
            recovery := some { k with stage := .releaseRound }, rounds := s.mon.rounds + 1 } }))
  ∧ ∀ (s : State) (sent : Bool) (probe : Option Probe), s.mon.state = .guarding →
    s.mon.guardStage = some (.startup sent probe) → s.mon.recovery = none →
    let ended : State := { s with bus := { s.bus with
      primitive := none, stuckReported := s.bus.stuckReported && s.bus.datLow } }
    (sent = false → s.bus.txn = none → s.bus.primitive = none →
      (s.bus.datLow = true → Runs .linkGrant s { s with bus := { s.bus with
        primitive := some { kind := .broadcastStartCheck, discard := false } } })
      ∧ (s.bus.datLow = false → Runs .linkGrant s { s with bus := { s.bus with
          primitive := some { kind := .broadcastSettle, discard := false }
          stuckReported := false
          lastFrame := withCheck ([false, false, false, false, true, false]
            ++ List.replicate 6 false) } }))
    ∧ (∀ p, s.bus.primitive = some p → p.kind = .broadcastSettle →
        (p.discard = true → Runs .broadcastResetSettleEnd s ended)
        ∧ (p.discard = false → Runs .broadcastResetSettleEnd s { ended with
            mon := { s.mon with guardStage := some (.startup true probe) } }))
    ∧ (∀ p b, s.bus.txn = none → s.bus.primitive = some p → p.kind = .broadcastStartCheck →
        s.bus.datLow = true → p.discard = false → s.mon.guardActive = true →
        ∃ t : State, Runs (.startCheckTimeout b) s t
          ∧ t.mon = { s.mon with
              guardStage := some .lineRecovery, guardPoll := none, guardReprobe := none
              lineFaulted := true
              recovery := some { stage := .releaseRound, reason := .lineStuck }
              rounds := s.mon.rounds + 1
              nextGuardPoll := if (s.stn 1).state = .adopted then none else s.mon.nextGuardPoll }
          ∧ t.bus = { s.bus with primitive := none, stuckReported := true }
          ∧ (∀ q, probe = some q → (s.stn q.address).holder = some .guardStartup →
              (t.stn q.address).holder = none)
          ∧ t.trip.faultStart
            = (if s.mon.lineFaulted then s.trip.faultStart else some s.mon.time))

/-! ## Attempts and outcomes -/

/-- R115, R116, R117: a first attempt that draws no reply or a CORRUPT one begins the second, with
the identical frame; while DB_DAT is low it waits at its start check. R66, R89, R118, R129: the end
of a transaction, by a good ACK, a good NAK, a second failed attempt or a failed start check: the
link is idle, the counters go up, and the station's last heard time and failed-transaction count
follow the outcome; those of every other station stay. A failed start check sends nothing and
leaves line-stuck reported. -/
def Obligations.AttemptsEndAndAreCounted : Prop :=
  (∀ (s : State) (x : Transaction) (bits : List Bool), s.bus.txn = some x → x.phase = .awaiting →
    x.second = false →
    let again : State := { s with bus := { s.bus with
      txn := some { x with second := true, phase := if s.bus.datLow then .startCheck else .awaiting }
      stuckReported := s.bus.stuckReported && s.bus.datLow
      lastFrame := if s.bus.datLow then s.bus.lastFrame
        else requestFrame x.address x.register x.data } }
    Runs .responseWindowExpiry s again
    ∧ (judgeResponse x.data.isNone bits = .corrupt → Runs (.responseReceived bits) s again))
  ∧ (∀ (s : State) (x : Transaction), s.bus.txn = some x → 1 ≤ x.address → x.address ≤ 12 →
    let ends : State → Bool → Bool → Bool → Prop := fun t heard fails missed =>
      t.bus = { s.bus with
        txn := none, primitive := t.bus.primitive, stuckReported := t.bus.stuckReported
        transactions := s.bus.transactions + 1
        retries := if x.second then s.bus.retries + 1 else s.bus.retries
        missed := if missed then s.bus.missed + 1 else s.bus.missed }
      ∧ (t.stn x.address).lastHeard
        = (if heard then some s.mon.time else (s.stn x.address).lastHeard)
      ∧ (t.stn x.address).failed.toNat
        = (if fails then min ((s.stn x.address).failed.toNat + 1) 65535
          else (s.stn x.address).failed.toNat)
      ∧ (∀ a, a ≠ x.address → (t.stn a).lastHeard = (s.stn a).lastHeard
          ∧ (t.stn a).failed = (s.stn a).failed)
      ∧ t.mon = { t.mon with time := s.mon.time, params := s.mon.params }
      ∧ t.mem = s.mem ∧ t.port = s.port ∧ t.pcie = s.pcie ∧ t.pending = s.pending
    (x.phase = .awaiting → ∀ bits,
      (∀ d, judgeResponse x.data.isNone bits = .goodAck d →
        ∃ t : State, Runs (.responseReceived bits) s t ∧ ends t true false false)
      ∧ (judgeResponse x.data.isNone bits = .goodNak →
          ∃ t : State, Runs (.responseReceived bits) s t ∧ ends t true true false)
      ∧ (x.second = true → judgeResponse x.data.isNone bits = .corrupt →
          ∃ t : State, Runs (.responseReceived bits) s t ∧ ends t false true true))
    ∧ (x.phase = .awaiting → x.second = true →
        ∃ t : State, Runs .responseWindowExpiry s t ∧ ends t false true true)
    ∧ (x.phase = .startCheck → s.bus.datLow = true → ∀ b,
        ∃ t : State, Runs (.startCheckTimeout b) s t ∧ ends t false true true
          ∧ t.bus.stuckReported = true))

/-- R77, R78, R84 to R87: a transaction that is not a probe step, to an ADOPTED station: DONE
returns the miss count to 0, a plan write that still matches sets plan-applied, a STATUS read takes
the flags as owed and RESET_DONE clears plan-applied; NAK rejects the station; the third MISSED in
a row makes it SILENT, an earlier one is counted. RESET_DONE hands a RESTARTED note and FAULT a
STATION_FAULT note, in this order, from and to ADOPTED with the class as value; so does the STATUS read
of a guard poll (R133). A DONE QUALITY or READING read of a sweep's or a pass's visit after which every
bound point of the function has been read, all DONE, clears the function's owed flag, unless it has been
raised again or the function has been reported before in that visit: that a function is reported at most
once in a visit, so that the read of a point defined after its report clears nothing, is the model's
reading (log entry 22). No other QUALITY or READING read touches the owed flags: not one of a FRESH_READ (R105),
of a guard poll (R133), or of an activity that has ended (R92), and not one that ended MISSED. That a flag first seen between the issue of the QUALITY read and
the last point is cleared too, having no raised-again mark, is the model's choice (log entry 29). So is
that the mark counts as it stands at the report, though the QUALITY read of another visit may have cleared
it since this visit's own (log entry 39), and
so is that a plan-applied set meanwhile stays set (log entry 30) and that the plan write matches wherever
the plan held equals the plan written, changed and changed back meanwhile or not (log entry 37). -/
def Obligations.CountedOutcomesMoveTheStation : Prop :=
  ∀ (s : State) (x : Transaction) (bits : List Bool), s.bus.txn = some x → x.phase = .awaiting →
    1 ≤ x.address → x.address ≤ 12 → (∀ p w, x.purpose ≠ .probeStep p w) →
    (s.stn x.address).state = .adopted →
    let a := x.address
    let q := s.stn a
    let verdict := judgeResponse x.data.isNone bits
    (∀ d t, verdict = .goodAck d → Runs (.responseReceived bits) s t →
      (t.stn a).state = .adopted ∧ (t.stn a).missCount = 0
      ∧ (t.stn a).fingerprint = q.fingerprint ∧ (t.stn a).plan = q.plan
      ∧ (∀ p, x.purpose = .planWrite p →
          (t.stn a).planApplied = (q.planApplied || decide (q.plan = p)) ∧ (t.stn a).owed = q.owed)
      ∧ (x.purpose = .statusRead →
          (t.stn a).owed = q.owed ||| d.extractLsb' 0 4
          ∧ (t.stn a).raisedAgain = q.raisedAgain ||| (d.extractLsb' 0 4 &&& q.owed)
          ∧ (t.stn a).planApplied = (q.planApplied && !d.getLsbD 4)
          ∧ (let note : Byte → Notice := fun detail =>
                { source := .station a, generation := 0, before := 2, after := 2, detail := detail
                  value := q.classRev.elim 0 (fun c => c.cls.setWidth 16), time := s.mon.time
                  classUrgent := false }
              let notes := (if d.getLsbD 4 then [note 15] else [])
                ++ (if d.getLsbD 5 then [note 8] else [])
              (x.orphan = true ∨ x.activity = .sweep ∨ x.activity = .job → s.Reported t notes)
              ∧ (x.activity = .guardPoll → (∀ g, s.mon.guardPoll = some g → g.stage ≠ .reading) →
                  s.Reported t notes)
              ∧ (x.activity = .attention → s.Reported t notes
                ∨ ∃ n, n.source = .link ∧ s.Reported t (notes ++ [n]))))
      ∧ (∀ f last v, x.orphan = false →
          (x.purpose = .qualityRead f ∧ last = none
            ∨ ∃ p tag, x.purpose = .readingRead f p tag ∧ last = some p) →
          (x.activity = .sweep ∧ (∃ w, s.sched.sweep = some w ∧ w.position = .visiting v)
            ∨ x.activity = .attention ∧ ∃ w, s.sched.pass = some w ∧ w.position = .visiting v) →
          v.address = a →
          let left : Prop := ∃ n < 128, ∃ b, (s.chan n).binding = some b ∧ b.loc.station = a
            ∧ b.loc.fn = f ∧ b.loc.point < 8 ∧ q.hasPoint f b.loc.point = true
            ∧ ∀ p, last = some p → p < b.loc.point
          let whole : Prop := last = none ∨ v.allDone = true ∧ v.reported = false
          (whole → ¬ left → q.raisedAgain.getLsbD f = false →
            (t.stn a).owed = q.owed &&& ~~~(BitVec.twoPow 4 f))
          ∧ (¬ whole ∨ left ∨ q.raisedAgain.getLsbD f = true → (t.stn a).owed = q.owed))
      ∧ (x.orphan = true ∨ x.activity ≠ .sweep ∧ x.activity ≠ .attention →
          (∃ f, x.purpose = .qualityRead f) ∨ (∃ f p tag, x.purpose = .readingRead f p tag) →
          (t.stn a).owed = q.owed))
    ∧ (∀ t, verdict = .goodNak → Runs (.responseReceived bits) s t →
        (t.stn a).state = .rejected ∧ (t.stn a).reason = some .protocol ∧ (t.stn a).missCount = 0
        ∧ (t.stn a).owed = 0 ∧ (t.stn a).raisedAgain = 0 ∧ (t.stn a).reprobeAt = none
        ∧ ∀ n < 128, (s.chan n).onStation a = true → (t.chan n).condition = .unreachable)
    ∧ (∀ t, x.second = true → Runs .responseWindowExpiry s t →
        (q.missCount < 2 → (t.stn a).state = .adopted ∧ (t.stn a).missCount = q.missCount + 1
          ∧ ((∃ f, x.purpose = .qualityRead f) ∨ (∃ f p tag, x.purpose = .readingRead f p tag) →
            (t.stn a).owed = q.owed))
        ∧ (2 ≤ q.missCount →
            (t.stn a).state = .silent ∧ (t.stn a).reason = some .missed ∧ (t.stn a).missCount = 0
            ∧ (t.stn a).reprobeAt
              = some (s.mon.time + BitVec.ofNat 32 s.mon.params.reprobeInterval)
            ∧ (t.stn a).owed = 0 ∧ (t.stn a).raisedAgain = 0
            ∧ ∀ n < 128, (s.chan n).onStation a = true → (t.chan n).condition = .unreachable))

/-- R91: a DONE read of a READING hands the tagged channel its reading, where the QUALITY of the
same visit was read, and touches no other channel; without it no channel changes. -/
def Obligations.ReadingReachesItsChannel : Prop :=
  ∀ (s t : State) (x : Transaction) (bits : List Bool) (d : BitVec 16) (f p : Nat)
    (tag : ReadingTag), s.bus.txn = some x → x.phase = .awaiting → x.data = none →
    x.purpose = .readingRead f p (some tag) → judgeResponse true bits = .goodAck d →
    Runs (.responseReceived bits) s t →
    (∀ q, tag.quality = some q →
      t.channels = (s.reading tag.channel tag.generation d q tag.fault).channels)
    ∧ (tag.quality = none → t.channels = s.channels)

/-- R68 to R72: the table of a probe's outcomes, by the step and the state the station holds; each
ending outcome removes the holder. The last clause, plan-applied after step 4 ended DONE, keeps a
plan-applied that another activity's plan write has set since step 3 even where the plan held differs
from the plan written: R71 says that it otherwise stays clear, and that it is left set then is the
model's choice (log entry 30). So is that the plan held need only equal the plan written, be it changed and
changed back since (R70, R71, log entry 37). -/
def Obligations.ProbeOutcomesByTheTable : Prop :=
  ∀ (s t : State) (x : Transaction) (step : ProbeStep) (written : Plan) (bits : List Bool),
    s.bus.txn = some x → x.phase = .awaiting → 1 ≤ x.address → x.address ≤ 12 →
    x.purpose = .probeStep step written → x.orphan = false →
    (s.stn x.address).holder = some x.activity →
    let a := x.address
    let q := s.stn a
    let later := some (s.mon.time + BitVec.ofNat 32 s.mon.params.reprobeInterval)
    let verdict := judgeResponse x.data.isNone bits
    let is : StationState → Option Reason → Prop := fun st reason =>
      (t.stn a).state = st ∧ (t.stn a).reason = reason ∧ (t.stn a).holder = none
    (Runs .responseWindowExpiry s t → x.second = true →
      (step = .id0 → q.state = .silent → is .silent q.reason ∧ (t.stn a).reprobeAt = later)
      ∧ (step = .id0 → q.state ≠ .silent → is .absent none)
      ∧ (step ≠ .id0 → q.state = .adopted → is .silent (some .missed)
          ∧ (t.stn a).reprobeAt = later ∧ (t.stn a).missCount = 0)
      ∧ (step ≠ .id0 → q.state = .silent → is .silent q.reason)
      ∧ (step ≠ .id0 → q.state ≠ .adopted → q.state ≠ .silent → is .absent none))
    ∧ (Runs (.responseReceived bits) s t →
      (verdict = .goodNak → is .rejected (some .protocol))
      ∧ (∀ d, verdict = .goodAck d → step = .id0 →
          let c : ClassRev := { cls := d.extractLsb' 8 8, rev := d.extractLsb' 0 8 }
          (t.stn a).classRev = some c
          ∧ (c.cls.toNat < 1 ∨ 5 < c.cls.toNat → is .rejected (some .unsupported))
          ∧ (1 ≤ c.cls.toNat → c.cls.toNat ≤ 5 →
              (t.stn a).state = q.state ∧ (t.stn a).reason = q.reason
              ∧ (x.activity ≠ .job → (t.stn a).holder = q.holder)))
      ∧ (∀ d, verdict = .goodAck d → step = .id1 →
          let sh : Shape := { fns := d.extractLsb' 0 4, pts := d.extractLsb' 4 4 }
          let formed := 1 ≤ sh.fns.toNat ∧ sh.fns.toNat ≤ 4 ∧ 1 ≤ sh.pts.toNat ∧ sh.pts.toNat ≤ 8
          let changed := ∃ fp, q.fingerprint = some fp ∧ ¬ (q.classRev = some fp.classRev ∧ fp.shape = sh)
          (t.stn a).shape = some sh
          ∧ (¬ formed → is .rejected (some .malformed))
          ∧ (formed → changed → is .rejected (some .changed))
          ∧ (formed → ¬ changed → (t.stn a).state = q.state ∧ (t.stn a).reason = q.reason
              ∧ (x.activity ≠ .job → (t.stn a).holder = q.holder)))
      ∧ (∀ d cr sh, verdict = .goodAck d → step = .status → q.classRev = some cr →
          q.shape = some sh →
          is .adopted none ∧ (t.stn a).fingerprint = some { classRev := cr, shape := sh }
          ∧ (t.stn a).missCount = 0 ∧ (t.stn a).reprobeAt = none
          ∧ (t.stn a).owed = 0 ∧ (t.stn a).raisedAgain = 0
          ∧ (t.stn a).planApplied
            = ((q.planApplied || decide (q.plan = written)) && !d.getLsbD 4)))

/-- R135, R136, R140, R143, R54: the end of an enumeration and the end of recovery: MONITORING with
roster-complete; a faulted line is restored, with LINK_RESTORED handed first, and then the members
still UNREACHABLE trip the part; the end of recovery restarts the sweep timer. R67 to R72, R142: the
outcome that ends the probe of the last masked address gives these ends, the one of an earlier address
moves the walk on to the next, and one that does not end the probe moves it to its next step. R132,
R134, R135: the end of the probe of address 1 in guard start-up, in guard line recovery and in a guard
reprobe: guard watches, and a poll is due at once where station 1 is ADOPTED. -/
def Obligations.EnumerationAndRecoveryEnd : Prop :=
  (∀ s : State,
    let restored : Notice :=
      { source := .link, generation := 0, before := byteOf (linkCode s.mon.lineFaulted s.mon.attnPartStuck)
        after := byteOf (linkCode false s.mon.attnPartStuck), detail := 0, value := 0
        time := s.mon.time, classUrgent := false }
    let lost : Nat → Prop := fun n => (s.chan n).isMember = true ∧ (s.chan n).condition = .unreachable
    let restores : State → Prop := fun t =>
      ((∀ n < 128, ¬ lost n) → s.trip.latch ≠ .rearmWait →
        t.trip = { s.trip with faultStart := none } ∧ s.Reported t [restored])
      ∧ (∀ n < 128, lost n → (∀ m < n, ¬ lost m) → s.trip.latch = .clear →
          t.trip.latch = .tripped ∧ t.trip.faultStart = none
          ∧ ∃ k, t.trip.cause = some
            { kind := .memberFault, source := byteOf n, time := s.mon.time, count := k })
    let timer : SweepTimer :=
      { next := s.mon.time + BitVec.ofNat 32 s.mon.params.sweepPeriod
        period := s.mon.params.sweepPeriod }
    let e := s.finishEnumeration
    let r := s.finishRecovery
    e.mon = { s.mon with
      rosterComplete := true, enumeration := none, lineFaulted := false, state := .monitoring }
    ∧ (s.mon.lineFaulted = false → e = { s with mon := e.mon })
    ∧ (s.mon.lineFaulted = true → restores e)
    ∧ (s.mon.state ≠ .guarding →
        r.mon = { s.mon with
          rosterComplete := true, recovery := none, lineFaulted := false, state := .monitoring }
        ∧ r.sched = { s.sched with timer := some timer }
        ∧ restores r)
    ∧ (s.mon.state = .guarding →
        r.mon = { s.mon with
          recovery := none, lineFaulted := false, guardStage := some .watching
          nextGuardPoll := if (s.stn 1).state = .adopted then some s.mon.time
            else s.mon.nextGuardPoll }
        ∧ r.sched = s.sched ∧ restores r)
    ∧ e = { s with mon := e.mon, trip := e.trip, evt := e.evt, ring := { s.ring with
        eventWrites := e.ring.eventWrites, eventTail := e.ring.eventTail
        eventLap := e.ring.eventLap } }
    ∧ r = { s with mon := r.mon, sched := r.sched, trip := r.trip, evt := r.evt, ring := { s.ring with
        eventWrites := r.ring.eventWrites, eventTail := r.ring.eventTail
        eventLap := r.ring.eventLap } })
  ∧ ∀ (s : State) (x : Transaction) (step : ProbeStep) (written : Plan) (bits : List Bool),
    s.bus.txn = some x → x.phase = .awaiting → x.orphan = false → 1 ≤ x.address → x.address ≤ 12 →
    x.purpose = .probeStep step written → (s.stn x.address).holder = some x.activity →
    (s.stn x.address).state ≠ .adopted ∨ s.mon.guardActive = false →
    let a := x.address
    let q := s.stn a
    let verdict := judgeResponse x.data.isNone bits
    let known : BitVec 16 → Prop := fun d =>
      1 ≤ (d.extractLsb' 8 8).toNat ∧ (d.extractLsb' 8 8).toNat ≤ 5
    let sound : BitVec 16 → Prop := fun d =>
      let sh : Shape := { fns := d.extractLsb' 0 4, pts := d.extractLsb' 4 4 }
      1 ≤ sh.fns.toNat ∧ sh.fns.toNat ≤ 4 ∧ 1 ≤ sh.pts.toNat ∧ sh.pts.toNat ≤ 8
        ∧ ∀ fp, q.fingerprint = some fp → q.classRev = some fp.classRev ∧ fp.shape = sh
    let goesOn : ProbeStep → Prop := fun next => ∃ d, verdict = .goodAck d
      ∧ (step = .id0 ∧ next = .id1 ∧ known d ∨ step = .id1 ∧ next = .control ∧ sound d
        ∨ step = .control ∧ next = .status)
    let ends : Instr → Prop := fun c =>
      c = .responseReceived bits ∧ (verdict = .goodNak ∨ ∃ d, verdict = .goodAck d
        ∧ (step = .status ∨ step = .id0 ∧ ¬ known d ∨ step = .id1 ∧ ¬ sound d))
      ∨ x.second = true ∧ (c = .responseWindowExpiry ∨ c = .responseReceived bits ∧ verdict = .corrupt)
        ∧ (step = .id0 ∨ q.state ≠ .adopted
          ∨ ∃ b, 1 ≤ b ∧ b ≤ 12 ∧ b ≠ a ∧ (s.stn b).state = .adopted)
    let left : Prop := ∃ b, a < b ∧ b ≤ 12 ∧ s.mon.params.stationMask.getLsbD (b - 1) = true
    let past : ProbeWalk := { last := a, probe := none }
    let probe : ProbeStep → Probe := fun next => { address := a, step := next, written := written }
    let on : ProbeStep → ProbeWalk := fun next => { last := a - 1, probe := some (probe next) }
    let leads : Instr → (State → Monitor) → Prop := fun c m => ∃ t : State, Runs c s t ∧ t.mon = m t
    let watches : State → Monitor := fun t => { s.mon with
      guardStage := some .watching
      nextGuardPoll := if (t.stn 1).state = .adopted then some s.mon.time
        else s.mon.nextGuardPoll }
    (x.activity = .enumeration → s.mon.enumeration ≠ none →
      (∀ c, ends c →
        (left → leads c fun _ => { s.mon with enumeration := some past })
        ∧ (¬ left → ∃ t : State, Runs c s t
            ∧ t.mon = { s.mon with
                rosterComplete := true, enumeration := none, lineFaulted := false
                state := .monitoring }
            ∧ (s.mon.lineFaulted = true → t.trip.faultStart = none)))
      ∧ ∀ next, goesOn next →
          leads (.responseReceived bits) fun _ => { s.mon with enumeration := some (on next) })
    ∧ (x.activity = .recovery → ∀ k w, s.mon.recovery = some k → k.stage = .probing w →
        (∀ c, ends c →
          (s.mon.state ≠ .guarding →
            (left → leads c fun _ =>
              { s.mon with recovery := some { k with stage := .probing past } })
            ∧ (¬ left → ∃ t : State, Runs c s t
                ∧ t.mon = { s.mon with
                    rosterComplete := true, recovery := none, lineFaulted := false
                    state := .monitoring }
                ∧ t.trip.faultStart = none
                ∧ t.sched.timer = some
                  { next := s.mon.time + BitVec.ofNat 32 s.mon.params.sweepPeriod
                    period := s.mon.params.sweepPeriod }))
          ∧ (s.mon.state = .guarding → ∃ t : State, Runs c s t
              ∧ t.mon = { watches t with recovery := none, lineFaulted := false }
              ∧ t.trip.faultStart = none))
        ∧ ∀ next, goesOn next → leads (.responseReceived bits) fun _ =>
            { s.mon with recovery := some { k with stage := .probing (on next) } })
    ∧ (x.activity = .guardStartup → ∀ sent p, s.mon.guardStage = some (.startup sent p) →
        (∀ c, ends c → leads c watches)
        ∧ ∀ next, goesOn next → leads (.responseReceived bits) fun _ =>
            { s.mon with guardStage := some (.startup true (some (probe next))) })
    ∧ (x.activity = .guardReprobe → s.mon.guardStage = some .watching → s.mon.guardReprobe ≠ none →
        (∀ c, ends c → leads c fun t => { watches t with guardReprobe := none })
        ∧ ∀ next, goesOn next → leads (.responseReceived bits) fun _ =>
            { s.mon with guardReprobe := some (on next) })

/-! ## The wires -/

/-- R126, R141, R135, R142: a low of 5 ms on an idle link is reported once: nothing more in STOPPED,
entry to RECOVERING from ENUMERATING and MONITORING, guard line recovery in GUARD, from its start-up as
well as from watching, with any guard poll, start-up probe and guard reprobe given up; and in the probing
stage of recovery and of guard line recovery a new release round, with the probe in progress given up
(R73). That a round is counted as it begins is the model's reading (log entry 22). -/
def Obligations.StuckLineIsReportedOnce : Prop :=
  ∀ s : State,
    let x : State := { s with bus := { s.bus with stuckReported := true } }
    (s.bus.txn ≠ none ∨ s.bus.primitive ≠ none ∨ s.bus.datLow = false ∨ s.bus.stuckReported = true →
      Runs .lineMonitorStuck s s)
    ∧ (s.bus.txn = none → s.bus.primitive = none → s.bus.datLow = true →
        s.bus.stuckReported = false →
        (s.mon.state = .stopped → Runs .lineMonitorStuck s x)
        ∧ (s.mon.state = .enumerating ∨ s.mon.state = .monitoring →
            Runs .lineMonitorStuck s (x.enterRecovering .lineStuck))
        ∧ (s.mon.state = .recovering
              ∨ s.mon.state = .guarding ∧ s.mon.guardStage = some .lineRecovery →
            ∀ k, s.mon.recovery = some k →
            let y : State := { x with mon := { s.mon with
              recovery := some { k with stage := .releaseRound }, rounds := s.mon.rounds + 1 } }
            ((∀ w, k.stage ≠ .probing w) → Runs .lineMonitorStuck s x)
            ∧ (∀ w, k.stage = .probing w →
                (w.probe = none → Runs .lineMonitorStuck s y)
                ∧ ∀ p, w.probe = some p →
                  ((s.stn p.address).holder = some .recovery → Runs .lineMonitorStuck s
                    (y.setStn p.address { s.stn p.address with holder := none }))
                  ∧ ((s.stn p.address).holder ≠ some .recovery → Runs .lineMonitorStuck s y)))
        ∧ (s.mon.state = .guarding → s.mon.guardActive = true → ∀ g, s.mon.guardStage = some g →
            g ≠ .lineRecovery → ∃ t : State, Runs .lineMonitorStuck s t
              ∧ t.mon = { s.mon with
                  guardStage := some .lineRecovery, guardPoll := none, guardReprobe := none
                  lineFaulted := true
                  recovery := some { stage := .releaseRound, reason := .lineStuck }
                  rounds := s.mon.rounds + 1
                  nextGuardPoll := if (s.stn 1).state = .adopted then none
                    else s.mon.nextGuardPoll }
              ∧ t.bus = x.bus
              ∧ (∀ sent p, g = .startup sent (some p) →
                  (s.stn p.address).holder = some .guardStartup → (t.stn p.address).holder = none)
              ∧ (∀ w p, s.mon.guardReprobe = some w → w.probe = some p →
                  (s.stn p.address).holder = some .guardReprobe → (t.stn p.address).holder = none)
              ∧ ((s.stn 1).state = .adopted →
                  (t.stn 1).state = .silent ∧ (t.stn 1).reason = some .linkFault
                  ∧ t.trip.latch = .tripped ∧ t.trip.guardQualified = false)))

/-- R101, R102, R112, R116, R126: the levels of DB_DAT and DB_ATTN: a low changes only the level;
DB_DAT seen high clears line-stuck reported on an idle link and lets a waiting start check send;
the release of DB_ATTN clears the empty-pass count or, while attention is stuck, the mark, with
ATTN_RESTORED handed. -/
def Obligations.WireLevelsAreSeen : Prop :=
  ∀ s : State,
    let high : DropBus := { s.bus with datLow := false }
    let open_ : DropBus := { s.bus with attnLow := false }
    Runs .dbDatLow s { s with bus := { s.bus with datLow := true } }
    ∧ (s.bus.txn = none → s.bus.primitive = none →
        Runs .dbDatReleased s { s with bus := { high with stuckReported := false } })
    ∧ (∀ x, s.bus.txn = some x →
        (x.phase = .awaiting → Runs .dbDatReleased s { s with bus := high })
        ∧ (x.phase = .startCheck → Runs .dbDatReleased s { s with bus := { high with
            txn := some { x with phase := .awaiting }, stuckReported := false
            lastFrame := requestFrame x.address x.register x.data } }))
    ∧ (∀ p, s.bus.txn = none → s.bus.primitive = some p →
        (p.kind ≠ .broadcastStartCheck → Runs .dbDatReleased s { s with bus := high })
        ∧ (p.kind = .broadcastStartCheck → Runs .dbDatReleased s { s with bus := { high with
            primitive := some { p with kind := .broadcastSettle }, stuckReported := false
            lastFrame := broadcastFrame } }))
    ∧ Runs .dbAttnAsserted s { s with bus := { s.bus with attnLow := true } }
    ∧ (s.bus.attnLow = false → Runs .dbAttnReleased s s)
    ∧ (s.bus.attnLow = true → s.sched.attnStuck = false → Runs .dbAttnReleased s
        { s with bus := open_, sched := { s.sched with emptyPasses := 0 } })
    ∧ (s.bus.attnLow = true → s.sched.attnStuck = true → Runs .dbAttnReleased s (State.notify
        { s with
          bus := open_, sched := { s.sched with attnStuck := false }
          mon := { s.mon with attnPartStuck := false } }
        { source := .link, generation := 0
          before := byteOf (linkCode s.mon.lineFaulted s.mon.attnPartStuck)
          after := byteOf (linkCode s.mon.lineFaulted false), detail := 0, value := 0
          time := s.mon.time, classUrgent := false }))
end

