-- ==== Sys2Proof/Laws/State.lean ====
section
/-! SUPPORT. What each update of the state leaves: one lemma for each field and update, true by
unfolding. -/

namespace Sys2Proof.Machine

/-! ### setChan -/

@[simp] theorem State.setChan_pending (s : State) (n : Nat) (c : Channel) : (s.setChan n c).pending = s.pending := rfl
@[simp] theorem State.setChan_stations (s : State) (n : Nat) (c : Channel) : (s.setChan n c).stations = s.stations := rfl
@[simp] theorem State.setChan_evt (s : State) (n : Nat) (c : Channel) : (s.setChan n c).evt = s.evt := rfl
@[simp] theorem State.setChan_trip (s : State) (n : Nat) (c : Channel) : (s.setChan n c).trip = s.trip := rfl
@[simp] theorem State.setChan_sched (s : State) (n : Nat) (c : Channel) : (s.setChan n c).sched = s.sched := rfl
@[simp] theorem State.setChan_bus (s : State) (n : Nat) (c : Channel) : (s.setChan n c).bus = s.bus := rfl
@[simp] theorem State.setChan_mon (s : State) (n : Nat) (c : Channel) : (s.setChan n c).mon = s.mon := rfl
@[simp] theorem State.setChan_req (s : State) (n : Nat) (c : Channel) : (s.setChan n c).req = s.req := rfl
@[simp] theorem State.setChan_ring (s : State) (n : Nat) (c : Channel) : (s.setChan n c).ring = s.ring := rfl
@[simp] theorem State.setChan_mem (s : State) (n : Nat) (c : Channel) : (s.setChan n c).mem = s.mem := rfl
@[simp] theorem State.setChan_port (s : State) (n : Nat) (c : Channel) : (s.setChan n c).port = s.port := rfl
@[simp] theorem State.setChan_pcie (s : State) (n : Nat) (c : Channel) : (s.setChan n c).pcie = s.pcie := rfl

/-! ### setSched -/

@[simp] theorem State.setSched_pending (s : State) (k : Scheduler) : (s.setSched k).pending = s.pending := rfl
@[simp] theorem State.setSched_channels (s : State) (k : Scheduler) : (s.setSched k).channels = s.channels := rfl
@[simp] theorem State.setSched_stations (s : State) (k : Scheduler) : (s.setSched k).stations = s.stations := rfl
@[simp] theorem State.setSched_evt (s : State) (k : Scheduler) : (s.setSched k).evt = s.evt := rfl
@[simp] theorem State.setSched_trip (s : State) (k : Scheduler) : (s.setSched k).trip = s.trip := rfl
@[simp] theorem State.setSched_sched (s : State) (k : Scheduler) : (s.setSched k).sched = k := rfl
@[simp] theorem State.setSched_bus (s : State) (k : Scheduler) : (s.setSched k).bus = s.bus := rfl
@[simp] theorem State.setSched_mon (s : State) (k : Scheduler) : (s.setSched k).mon = s.mon := rfl
@[simp] theorem State.setSched_req (s : State) (k : Scheduler) : (s.setSched k).req = s.req := rfl
@[simp] theorem State.setSched_ring (s : State) (k : Scheduler) : (s.setSched k).ring = s.ring := rfl
@[simp] theorem State.setSched_mem (s : State) (k : Scheduler) : (s.setSched k).mem = s.mem := rfl
@[simp] theorem State.setSched_port (s : State) (k : Scheduler) : (s.setSched k).port = s.port := rfl
@[simp] theorem State.setSched_pcie (s : State) (k : Scheduler) : (s.setSched k).pcie = s.pcie := rfl

/-! ### setMon -/

@[simp] theorem State.setMon_pending (s : State) (m : Monitor) : (s.setMon m).pending = s.pending := rfl
@[simp] theorem State.setMon_channels (s : State) (m : Monitor) : (s.setMon m).channels = s.channels := rfl
@[simp] theorem State.setMon_stations (s : State) (m : Monitor) : (s.setMon m).stations = s.stations := rfl
@[simp] theorem State.setMon_evt (s : State) (m : Monitor) : (s.setMon m).evt = s.evt := rfl
@[simp] theorem State.setMon_trip (s : State) (m : Monitor) : (s.setMon m).trip = s.trip := rfl
@[simp] theorem State.setMon_sched (s : State) (m : Monitor) : (s.setMon m).sched = s.sched := rfl
@[simp] theorem State.setMon_bus (s : State) (m : Monitor) : (s.setMon m).bus = s.bus := rfl
@[simp] theorem State.setMon_mon (s : State) (m : Monitor) : (s.setMon m).mon = m := rfl
@[simp] theorem State.setMon_req (s : State) (m : Monitor) : (s.setMon m).req = s.req := rfl
@[simp] theorem State.setMon_ring (s : State) (m : Monitor) : (s.setMon m).ring = s.ring := rfl
@[simp] theorem State.setMon_mem (s : State) (m : Monitor) : (s.setMon m).mem = s.mem := rfl
@[simp] theorem State.setMon_port (s : State) (m : Monitor) : (s.setMon m).port = s.port := rfl
@[simp] theorem State.setMon_pcie (s : State) (m : Monitor) : (s.setMon m).pcie = s.pcie := rfl

/-! ### setBus -/

@[simp] theorem State.setBus_pending (s : State) (b : DropBus) : (s.setBus b).pending = s.pending := rfl
@[simp] theorem State.setBus_channels (s : State) (b : DropBus) : (s.setBus b).channels = s.channels := rfl
@[simp] theorem State.setBus_stations (s : State) (b : DropBus) : (s.setBus b).stations = s.stations := rfl
@[simp] theorem State.setBus_evt (s : State) (b : DropBus) : (s.setBus b).evt = s.evt := rfl
@[simp] theorem State.setBus_trip (s : State) (b : DropBus) : (s.setBus b).trip = s.trip := rfl
@[simp] theorem State.setBus_sched (s : State) (b : DropBus) : (s.setBus b).sched = s.sched := rfl
@[simp] theorem State.setBus_bus (s : State) (b : DropBus) : (s.setBus b).bus = b := rfl
@[simp] theorem State.setBus_mon (s : State) (b : DropBus) : (s.setBus b).mon = s.mon := rfl
@[simp] theorem State.setBus_req (s : State) (b : DropBus) : (s.setBus b).req = s.req := rfl
@[simp] theorem State.setBus_ring (s : State) (b : DropBus) : (s.setBus b).ring = s.ring := rfl
@[simp] theorem State.setBus_mem (s : State) (b : DropBus) : (s.setBus b).mem = s.mem := rfl
@[simp] theorem State.setBus_port (s : State) (b : DropBus) : (s.setBus b).port = s.port := rfl
@[simp] theorem State.setBus_pcie (s : State) (b : DropBus) : (s.setBus b).pcie = s.pcie := rfl

/-! ### setTrip -/

@[simp] theorem State.setTrip_pending (s : State) (t : TripUnit) : (s.setTrip t).pending = s.pending := rfl
@[simp] theorem State.setTrip_channels (s : State) (t : TripUnit) : (s.setTrip t).channels = s.channels := rfl
@[simp] theorem State.setTrip_stations (s : State) (t : TripUnit) : (s.setTrip t).stations = s.stations := rfl
@[simp] theorem State.setTrip_evt (s : State) (t : TripUnit) : (s.setTrip t).evt = s.evt := rfl
@[simp] theorem State.setTrip_trip (s : State) (t : TripUnit) : (s.setTrip t).trip = t := rfl
@[simp] theorem State.setTrip_sched (s : State) (t : TripUnit) : (s.setTrip t).sched = s.sched := rfl
@[simp] theorem State.setTrip_bus (s : State) (t : TripUnit) : (s.setTrip t).bus = s.bus := rfl
@[simp] theorem State.setTrip_mon (s : State) (t : TripUnit) : (s.setTrip t).mon = s.mon := rfl
@[simp] theorem State.setTrip_req (s : State) (t : TripUnit) : (s.setTrip t).req = s.req := rfl
@[simp] theorem State.setTrip_ring (s : State) (t : TripUnit) : (s.setTrip t).ring = s.ring := rfl
@[simp] theorem State.setTrip_mem (s : State) (t : TripUnit) : (s.setTrip t).mem = s.mem := rfl
@[simp] theorem State.setTrip_port (s : State) (t : TripUnit) : (s.setTrip t).port = s.port := rfl
@[simp] theorem State.setTrip_pcie (s : State) (t : TripUnit) : (s.setTrip t).pcie = s.pcie := rfl

/-! ### setRing -/

@[simp] theorem State.setRing_pending (s : State) (r : RingEngine) : (s.setRing r).pending = s.pending := rfl
@[simp] theorem State.setRing_channels (s : State) (r : RingEngine) : (s.setRing r).channels = s.channels := rfl
@[simp] theorem State.setRing_stations (s : State) (r : RingEngine) : (s.setRing r).stations = s.stations := rfl
@[simp] theorem State.setRing_evt (s : State) (r : RingEngine) : (s.setRing r).evt = s.evt := rfl
@[simp] theorem State.setRing_trip (s : State) (r : RingEngine) : (s.setRing r).trip = s.trip := rfl
@[simp] theorem State.setRing_sched (s : State) (r : RingEngine) : (s.setRing r).sched = s.sched := rfl
@[simp] theorem State.setRing_bus (s : State) (r : RingEngine) : (s.setRing r).bus = s.bus := rfl
@[simp] theorem State.setRing_mon (s : State) (r : RingEngine) : (s.setRing r).mon = s.mon := rfl
@[simp] theorem State.setRing_req (s : State) (r : RingEngine) : (s.setRing r).req = s.req := rfl
@[simp] theorem State.setRing_ring (s : State) (r : RingEngine) : (s.setRing r).ring = r := rfl
@[simp] theorem State.setRing_mem (s : State) (r : RingEngine) : (s.setRing r).mem = s.mem := rfl
@[simp] theorem State.setRing_port (s : State) (r : RingEngine) : (s.setRing r).port = s.port := rfl
@[simp] theorem State.setRing_pcie (s : State) (r : RingEngine) : (s.setRing r).pcie = s.pcie := rfl

/-! ### setReq -/

@[simp] theorem State.setReq_pending (s : State) (r : RequestEngine) : (s.setReq r).pending = s.pending := rfl
@[simp] theorem State.setReq_channels (s : State) (r : RequestEngine) : (s.setReq r).channels = s.channels := rfl
@[simp] theorem State.setReq_stations (s : State) (r : RequestEngine) : (s.setReq r).stations = s.stations := rfl
@[simp] theorem State.setReq_evt (s : State) (r : RequestEngine) : (s.setReq r).evt = s.evt := rfl
@[simp] theorem State.setReq_trip (s : State) (r : RequestEngine) : (s.setReq r).trip = s.trip := rfl
@[simp] theorem State.setReq_sched (s : State) (r : RequestEngine) : (s.setReq r).sched = s.sched := rfl
@[simp] theorem State.setReq_bus (s : State) (r : RequestEngine) : (s.setReq r).bus = s.bus := rfl
@[simp] theorem State.setReq_mon (s : State) (r : RequestEngine) : (s.setReq r).mon = s.mon := rfl
@[simp] theorem State.setReq_req (s : State) (r : RequestEngine) : (s.setReq r).req = r := rfl
@[simp] theorem State.setReq_ring (s : State) (r : RequestEngine) : (s.setReq r).ring = s.ring := rfl
@[simp] theorem State.setReq_mem (s : State) (r : RequestEngine) : (s.setReq r).mem = s.mem := rfl
@[simp] theorem State.setReq_port (s : State) (r : RequestEngine) : (s.setReq r).port = s.port := rfl
@[simp] theorem State.setReq_pcie (s : State) (r : RequestEngine) : (s.setReq r).pcie = s.pcie := rfl

/-! ### setJobs -/

@[simp] theorem State.setJobs_pending (s : State) (js : List Job) : (s.setJobs js).pending = s.pending := rfl
@[simp] theorem State.setJobs_channels (s : State) (js : List Job) : (s.setJobs js).channels = s.channels := rfl
@[simp] theorem State.setJobs_stations (s : State) (js : List Job) : (s.setJobs js).stations = s.stations := rfl
@[simp] theorem State.setJobs_evt (s : State) (js : List Job) : (s.setJobs js).evt = s.evt := rfl
@[simp] theorem State.setJobs_trip (s : State) (js : List Job) : (s.setJobs js).trip = s.trip := rfl
@[simp] theorem State.setJobs_sched (s : State) (js : List Job) : (s.setJobs js).sched = s.sched := rfl
@[simp] theorem State.setJobs_bus (s : State) (js : List Job) : (s.setJobs js).bus = s.bus := rfl
@[simp] theorem State.setJobs_mon (s : State) (js : List Job) : (s.setJobs js).mon = s.mon := rfl
@[simp] theorem State.setJobs_req (s : State) (js : List Job) : (s.setJobs js).req = { s.req with jobs := js } := rfl
@[simp] theorem State.setJobs_ring (s : State) (js : List Job) : (s.setJobs js).ring = s.ring := rfl
@[simp] theorem State.setJobs_mem (s : State) (js : List Job) : (s.setJobs js).mem = s.mem := rfl
@[simp] theorem State.setJobs_port (s : State) (js : List Job) : (s.setJobs js).port = s.port := rfl
@[simp] theorem State.setJobs_pcie (s : State) (js : List Job) : (s.setJobs js).pcie = s.pcie := rfl

/-! ### setFlight -/

@[simp] theorem State.setFlight_pending (s : State) (a : Option Access) : (s.setFlight a).pending = s.pending := rfl
@[simp] theorem State.setFlight_channels (s : State) (a : Option Access) : (s.setFlight a).channels = s.channels := rfl
@[simp] theorem State.setFlight_stations (s : State) (a : Option Access) : (s.setFlight a).stations = s.stations := rfl
@[simp] theorem State.setFlight_evt (s : State) (a : Option Access) : (s.setFlight a).evt = s.evt := rfl
@[simp] theorem State.setFlight_trip (s : State) (a : Option Access) : (s.setFlight a).trip = s.trip := rfl
@[simp] theorem State.setFlight_sched (s : State) (a : Option Access) : (s.setFlight a).sched = s.sched := rfl
@[simp] theorem State.setFlight_bus (s : State) (a : Option Access) : (s.setFlight a).bus = s.bus := rfl
@[simp] theorem State.setFlight_mon (s : State) (a : Option Access) : (s.setFlight a).mon = s.mon := rfl
@[simp] theorem State.setFlight_req (s : State) (a : Option Access) : (s.setFlight a).req = s.req := rfl
@[simp] theorem State.setFlight_ring (s : State) (a : Option Access) : (s.setFlight a).ring = s.ring := rfl
@[simp] theorem State.setFlight_mem (s : State) (a : Option Access) : (s.setFlight a).mem = { s.mem with inFlight := a } := rfl
@[simp] theorem State.setFlight_port (s : State) (a : Option Access) : (s.setFlight a).port = s.port := rfl
@[simp] theorem State.setFlight_pcie (s : State) (a : Option Access) : (s.setFlight a).pcie = s.pcie := rfl

/-! ### setIface -/

@[simp] theorem State.setIface_pending (s : State) (i : InterfaceState) : (s.setIface i).pending = s.pending := rfl
@[simp] theorem State.setIface_channels (s : State) (i : InterfaceState) : (s.setIface i).channels = s.channels := rfl
@[simp] theorem State.setIface_stations (s : State) (i : InterfaceState) : (s.setIface i).stations = s.stations := rfl
@[simp] theorem State.setIface_evt (s : State) (i : InterfaceState) : (s.setIface i).evt = s.evt := rfl
@[simp] theorem State.setIface_trip (s : State) (i : InterfaceState) : (s.setIface i).trip = s.trip := rfl
@[simp] theorem State.setIface_sched (s : State) (i : InterfaceState) : (s.setIface i).sched = s.sched := rfl
@[simp] theorem State.setIface_bus (s : State) (i : InterfaceState) : (s.setIface i).bus = s.bus := rfl
@[simp] theorem State.setIface_mon (s : State) (i : InterfaceState) : (s.setIface i).mon = s.mon := rfl
@[simp] theorem State.setIface_req (s : State) (i : InterfaceState) : (s.setIface i).req = s.req := rfl
@[simp] theorem State.setIface_ring (s : State) (i : InterfaceState) : (s.setIface i).ring = { s.ring with iface := i } := rfl
@[simp] theorem State.setIface_mem (s : State) (i : InterfaceState) : (s.setIface i).mem = s.mem := rfl
@[simp] theorem State.setIface_port (s : State) (i : InterfaceState) : (s.setIface i).port = s.port := rfl
@[simp] theorem State.setIface_pcie (s : State) (i : InterfaceState) : (s.setIface i).pcie = s.pcie := rfl

/-! ### setBacklog -/

@[simp] theorem State.setBacklog_pending (s : State) (b : List Entry) : (s.setBacklog b).pending = s.pending := rfl
@[simp] theorem State.setBacklog_channels (s : State) (b : List Entry) : (s.setBacklog b).channels = s.channels := rfl
@[simp] theorem State.setBacklog_stations (s : State) (b : List Entry) : (s.setBacklog b).stations = s.stations := rfl
@[simp] theorem State.setBacklog_evt (s : State) (b : List Entry) : (s.setBacklog b).evt = { s.evt with backlog := b } := rfl
@[simp] theorem State.setBacklog_trip (s : State) (b : List Entry) : (s.setBacklog b).trip = s.trip := rfl
@[simp] theorem State.setBacklog_sched (s : State) (b : List Entry) : (s.setBacklog b).sched = s.sched := rfl
@[simp] theorem State.setBacklog_bus (s : State) (b : List Entry) : (s.setBacklog b).bus = s.bus := rfl
@[simp] theorem State.setBacklog_mon (s : State) (b : List Entry) : (s.setBacklog b).mon = s.mon := rfl
@[simp] theorem State.setBacklog_req (s : State) (b : List Entry) : (s.setBacklog b).req = s.req := rfl
@[simp] theorem State.setBacklog_ring (s : State) (b : List Entry) : (s.setBacklog b).ring = s.ring := rfl
@[simp] theorem State.setBacklog_mem (s : State) (b : List Entry) : (s.setBacklog b).mem = s.mem := rfl
@[simp] theorem State.setBacklog_port (s : State) (b : List Entry) : (s.setBacklog b).port = s.port := rfl
@[simp] theorem State.setBacklog_pcie (s : State) (b : List Entry) : (s.setBacklog b).pcie = s.pcie := rfl

/-! ### setEventMod -/

@[simp] theorem State.setEventMod_pending (s : State) (m : Moderation) : (s.setEventMod m).pending = s.pending := rfl
@[simp] theorem State.setEventMod_channels (s : State) (m : Moderation) : (s.setEventMod m).channels = s.channels := rfl
@[simp] theorem State.setEventMod_stations (s : State) (m : Moderation) : (s.setEventMod m).stations = s.stations := rfl
@[simp] theorem State.setEventMod_evt (s : State) (m : Moderation) : (s.setEventMod m).evt = s.evt := rfl
@[simp] theorem State.setEventMod_trip (s : State) (m : Moderation) : (s.setEventMod m).trip = s.trip := rfl
@[simp] theorem State.setEventMod_sched (s : State) (m : Moderation) : (s.setEventMod m).sched = s.sched := rfl
@[simp] theorem State.setEventMod_bus (s : State) (m : Moderation) : (s.setEventMod m).bus = s.bus := rfl
@[simp] theorem State.setEventMod_mon (s : State) (m : Moderation) : (s.setEventMod m).mon = s.mon := rfl
@[simp] theorem State.setEventMod_req (s : State) (m : Moderation) : (s.setEventMod m).req = s.req := rfl
@[simp] theorem State.setEventMod_ring (s : State) (m : Moderation) : (s.setEventMod m).ring = { s.ring with eventMod := m } := rfl
@[simp] theorem State.setEventMod_mem (s : State) (m : Moderation) : (s.setEventMod m).mem = s.mem := rfl
@[simp] theorem State.setEventMod_port (s : State) (m : Moderation) : (s.setEventMod m).port = s.port := rfl
@[simp] theorem State.setEventMod_pcie (s : State) (m : Moderation) : (s.setEventMod m).pcie = s.pcie := rfl

/-! ### setCompletionMod -/

@[simp] theorem State.setCompletionMod_pending (s : State) (m : Moderation) : (s.setCompletionMod m).pending = s.pending := rfl
@[simp] theorem State.setCompletionMod_channels (s : State) (m : Moderation) : (s.setCompletionMod m).channels = s.channels := rfl
@[simp] theorem State.setCompletionMod_stations (s : State) (m : Moderation) : (s.setCompletionMod m).stations = s.stations := rfl
@[simp] theorem State.setCompletionMod_evt (s : State) (m : Moderation) : (s.setCompletionMod m).evt = s.evt := rfl
@[simp] theorem State.setCompletionMod_trip (s : State) (m : Moderation) : (s.setCompletionMod m).trip = s.trip := rfl
@[simp] theorem State.setCompletionMod_sched (s : State) (m : Moderation) : (s.setCompletionMod m).sched = s.sched := rfl
@[simp] theorem State.setCompletionMod_bus (s : State) (m : Moderation) : (s.setCompletionMod m).bus = s.bus := rfl
@[simp] theorem State.setCompletionMod_mon (s : State) (m : Moderation) : (s.setCompletionMod m).mon = s.mon := rfl
@[simp] theorem State.setCompletionMod_req (s : State) (m : Moderation) : (s.setCompletionMod m).req = s.req := rfl
@[simp] theorem State.setCompletionMod_ring (s : State) (m : Moderation) : (s.setCompletionMod m).ring = { s.ring with completionMod := m } := rfl
@[simp] theorem State.setCompletionMod_mem (s : State) (m : Moderation) : (s.setCompletionMod m).mem = s.mem := rfl
@[simp] theorem State.setCompletionMod_port (s : State) (m : Moderation) : (s.setCompletionMod m).port = s.port := rfl
@[simp] theorem State.setCompletionMod_pcie (s : State) (m : Moderation) : (s.setCompletionMod m).pcie = s.pcie := rfl

/-! ### setFault -/

@[simp] theorem State.setFault_pending (s : State) (f : FaultRegister) : (s.setFault f).pending = s.pending := rfl
@[simp] theorem State.setFault_channels (s : State) (f : FaultRegister) : (s.setFault f).channels = s.channels := rfl
@[simp] theorem State.setFault_stations (s : State) (f : FaultRegister) : (s.setFault f).stations = s.stations := rfl
@[simp] theorem State.setFault_evt (s : State) (f : FaultRegister) : (s.setFault f).evt = s.evt := rfl
@[simp] theorem State.setFault_trip (s : State) (f : FaultRegister) : (s.setFault f).trip = s.trip := rfl
@[simp] theorem State.setFault_sched (s : State) (f : FaultRegister) : (s.setFault f).sched = s.sched := rfl
@[simp] theorem State.setFault_bus (s : State) (f : FaultRegister) : (s.setFault f).bus = s.bus := rfl
@[simp] theorem State.setFault_mon (s : State) (f : FaultRegister) : (s.setFault f).mon = s.mon := rfl
@[simp] theorem State.setFault_req (s : State) (f : FaultRegister) : (s.setFault f).req = s.req := rfl
@[simp] theorem State.setFault_ring (s : State) (f : FaultRegister) : (s.setFault f).ring = s.ring := rfl
@[simp] theorem State.setFault_mem (s : State) (f : FaultRegister) : (s.setFault f).mem = s.mem := rfl
@[simp] theorem State.setFault_port (s : State) (f : FaultRegister) : (s.setFault f).port = { s.port with fault := f } := rfl
@[simp] theorem State.setFault_pcie (s : State) (f : FaultRegister) : (s.setFault f).pcie = s.pcie := rfl

/-! ### setPcie -/

@[simp] theorem State.setPcie_pending (s : State) (p : PciePort) : (s.setPcie p).pending = s.pending := rfl
@[simp] theorem State.setPcie_channels (s : State) (p : PciePort) : (s.setPcie p).channels = s.channels := rfl
@[simp] theorem State.setPcie_stations (s : State) (p : PciePort) : (s.setPcie p).stations = s.stations := rfl
@[simp] theorem State.setPcie_evt (s : State) (p : PciePort) : (s.setPcie p).evt = s.evt := rfl
@[simp] theorem State.setPcie_trip (s : State) (p : PciePort) : (s.setPcie p).trip = s.trip := rfl
@[simp] theorem State.setPcie_sched (s : State) (p : PciePort) : (s.setPcie p).sched = s.sched := rfl
@[simp] theorem State.setPcie_bus (s : State) (p : PciePort) : (s.setPcie p).bus = s.bus := rfl
@[simp] theorem State.setPcie_mon (s : State) (p : PciePort) : (s.setPcie p).mon = s.mon := rfl
@[simp] theorem State.setPcie_req (s : State) (p : PciePort) : (s.setPcie p).req = s.req := rfl
@[simp] theorem State.setPcie_ring (s : State) (p : PciePort) : (s.setPcie p).ring = s.ring := rfl
@[simp] theorem State.setPcie_mem (s : State) (p : PciePort) : (s.setPcie p).mem = s.mem := rfl
@[simp] theorem State.setPcie_port (s : State) (p : PciePort) : (s.setPcie p).port = s.port := rfl
@[simp] theorem State.setPcie_pcie (s : State) (p : PciePort) : (s.setPcie p).pcie = p := rfl

/-! ### post -/

@[simp] theorem State.post_pending (s : State) (e : Entry) : (s.post e).pending = s.pending := rfl
@[simp] theorem State.post_channels (s : State) (e : Entry) : (s.post e).channels = s.channels := rfl
@[simp] theorem State.post_stations (s : State) (e : Entry) : (s.post e).stations = s.stations := rfl
@[simp] theorem State.post_evt (s : State) (e : Entry) : (s.post e).evt = s.evt := rfl
@[simp] theorem State.post_trip (s : State) (e : Entry) : (s.post e).trip = s.trip := rfl
@[simp] theorem State.post_sched (s : State) (e : Entry) : (s.post e).sched = s.sched := rfl
@[simp] theorem State.post_bus (s : State) (e : Entry) : (s.post e).bus = s.bus := rfl
@[simp] theorem State.post_mon (s : State) (e : Entry) : (s.post e).mon = s.mon := rfl
@[simp] theorem State.post_req (s : State) (e : Entry) : (s.post e).req = s.req := rfl
@[simp] theorem State.post_mem (s : State) (e : Entry) : (s.post e).mem = s.mem := rfl
@[simp] theorem State.post_port (s : State) (e : Entry) : (s.post e).port = s.port := rfl
@[simp] theorem State.post_pcie (s : State) (e : Entry) : (s.post e).pcie = s.pcie := rfl

/-! ### complete -/

@[simp] theorem State.complete_pending (s : State) (c : Completion) : (s.complete c).pending = s.pending := rfl
@[simp] theorem State.complete_channels (s : State) (c : Completion) : (s.complete c).channels = s.channels := rfl
@[simp] theorem State.complete_stations (s : State) (c : Completion) : (s.complete c).stations = s.stations := rfl
@[simp] theorem State.complete_evt (s : State) (c : Completion) : (s.complete c).evt = s.evt := rfl
@[simp] theorem State.complete_trip (s : State) (c : Completion) : (s.complete c).trip = s.trip := rfl
@[simp] theorem State.complete_sched (s : State) (c : Completion) : (s.complete c).sched = s.sched := rfl
@[simp] theorem State.complete_bus (s : State) (c : Completion) : (s.complete c).bus = s.bus := rfl
@[simp] theorem State.complete_mon (s : State) (c : Completion) : (s.complete c).mon = s.mon := rfl
@[simp] theorem State.complete_mem (s : State) (c : Completion) : (s.complete c).mem = s.mem := rfl
@[simp] theorem State.complete_port (s : State) (c : Completion) : (s.complete c).port = s.port := rfl
@[simp] theorem State.complete_pcie (s : State) (c : Completion) : (s.complete c).pcie = s.pcie := rfl

/-! ### take -/

@[simp] theorem State.take_pending (s : State) : (s.take).pending = s.pending := rfl
@[simp] theorem State.take_channels (s : State) : (s.take).channels = s.channels := rfl
@[simp] theorem State.take_stations (s : State) : (s.take).stations = s.stations := rfl
@[simp] theorem State.take_evt (s : State) : (s.take).evt = s.evt := rfl
@[simp] theorem State.take_trip (s : State) : (s.take).trip = s.trip := rfl
@[simp] theorem State.take_sched (s : State) : (s.take).sched = s.sched := rfl
@[simp] theorem State.take_bus (s : State) : (s.take).bus = s.bus := rfl
@[simp] theorem State.take_mon (s : State) : (s.take).mon = s.mon := rfl
@[simp] theorem State.take_mem (s : State) : (s.take).mem = s.mem := rfl
@[simp] theorem State.take_port (s : State) : (s.take).port = s.port := rfl
@[simp] theorem State.take_pcie (s : State) : (s.take).pcie = s.pcie := rfl

/-! ### setStn -/

@[simp] theorem State.setStn_pending (s : State) (a : Nat) (r : Station) : (s.setStn a r).pending = s.pending := by
  unfold State.setStn; split <;> rfl
@[simp] theorem State.setStn_channels (s : State) (a : Nat) (r : Station) : (s.setStn a r).channels = s.channels := by
  unfold State.setStn; split <;> rfl
@[simp] theorem State.setStn_evt (s : State) (a : Nat) (r : Station) : (s.setStn a r).evt = s.evt := by
  unfold State.setStn; split <;> rfl
@[simp] theorem State.setStn_trip (s : State) (a : Nat) (r : Station) : (s.setStn a r).trip = s.trip := by
  unfold State.setStn; split <;> rfl
@[simp] theorem State.setStn_sched (s : State) (a : Nat) (r : Station) : (s.setStn a r).sched = s.sched := by
  unfold State.setStn; split <;> rfl
@[simp] theorem State.setStn_bus (s : State) (a : Nat) (r : Station) : (s.setStn a r).bus = s.bus := by
  unfold State.setStn; split <;> rfl
@[simp] theorem State.setStn_mon (s : State) (a : Nat) (r : Station) : (s.setStn a r).mon = s.mon := by
  unfold State.setStn; split <;> rfl
@[simp] theorem State.setStn_req (s : State) (a : Nat) (r : Station) : (s.setStn a r).req = s.req := by
  unfold State.setStn; split <;> rfl
@[simp] theorem State.setStn_ring (s : State) (a : Nat) (r : Station) : (s.setStn a r).ring = s.ring := by
  unfold State.setStn; split <;> rfl
@[simp] theorem State.setStn_mem (s : State) (a : Nat) (r : Station) : (s.setStn a r).mem = s.mem := by
  unfold State.setStn; split <;> rfl
@[simp] theorem State.setStn_port (s : State) (a : Nat) (r : Station) : (s.setStn a r).port = s.port := by
  unfold State.setStn; split <;> rfl
@[simp] theorem State.setStn_pcie (s : State) (a : Nat) (r : Station) : (s.setStn a r).pcie = s.pcie := by
  unfold State.setStn; split <;> rfl

/-! ### setPort -/

@[simp] theorem State.setPort_pending (s : State) (p : RegisterPort) : (s.setPort p).pending = s.pending := rfl
@[simp] theorem State.setPort_channels (s : State) (p : RegisterPort) : (s.setPort p).channels = s.channels := rfl
@[simp] theorem State.setPort_stations (s : State) (p : RegisterPort) : (s.setPort p).stations = s.stations := rfl
@[simp] theorem State.setPort_evt (s : State) (p : RegisterPort) : (s.setPort p).evt = s.evt := rfl
@[simp] theorem State.setPort_trip (s : State) (p : RegisterPort) : (s.setPort p).trip = s.trip := rfl
@[simp] theorem State.setPort_sched (s : State) (p : RegisterPort) : (s.setPort p).sched = s.sched := rfl
@[simp] theorem State.setPort_bus (s : State) (p : RegisterPort) : (s.setPort p).bus = s.bus := rfl
@[simp] theorem State.setPort_mon (s : State) (p : RegisterPort) : (s.setPort p).mon = s.mon := rfl
@[simp] theorem State.setPort_req (s : State) (p : RegisterPort) : (s.setPort p).req = s.req := rfl
@[simp] theorem State.setPort_ring (s : State) (p : RegisterPort) : (s.setPort p).ring = s.ring := rfl
@[simp] theorem State.setPort_mem (s : State) (p : RegisterPort) : (s.setPort p).mem = s.mem := rfl
@[simp] theorem State.setPort_port (s : State) (p : RegisterPort) : (s.setPort p).port = p := rfl

end Sys2Proof.Machine
end

