-- ==== Sys2Proof/Laws/Ops.lean ====
section
/-! SUPPORT. Reading a channel or a station after an update, folds that keep a field, and what the
event unit's and the trip unit's shared operations leave unchanged, and what a walk over probes does. -/

namespace Sys2Proof.Machine

/-! ## Channels and stations -/

/-- The channels as a function of the number are those of the table. -/
theorem State.chan_congr {s t : State} (h : t.channels = s.channels) : t.chan = s.chan := by
  funext n; simp [State.chan, h]

/-- The stations as a function of the address are those of the table. -/
theorem State.stn_congr {s t : State} (h : t.stations = s.stations) : t.stn = s.stn := by
  funext a; simp [State.stn, h]

/-- Reading a channel after replacing one. -/
theorem State.chan_setChan (s : State) (n : Nat) (c : Channel) (m : Nat) :
    (s.setChan n c).chan m = if m = n ∧ n < 128 then c else s.chan m := by
  unfold State.chan State.setChan
  by_cases hm : m < 128
  · rw [Vector.getElem?_eq_getElem (by simpa using hm), Vector.getElem?_eq_getElem hm]
    simp only [Option.getD_some, Vector.getElem_setIfInBounds]
    by_cases h : n = m
    · subst h; simp [hm]
    · have : ¬ m = n := fun e => h e.symm
      simp [h, this]
  · rw [Vector.getElem?_eq_none (by simpa using hm), Vector.getElem?_eq_none (by omega)]
    have : ¬ (m = n ∧ n < 128) := by omega
    simp [this]

/-- Reading a station after replacing one. -/
theorem State.stn_setStn (s : State) (a : Nat) (r : Station) (b : Nat) :
    (s.setStn a r).stn b = if b = a ∧ 1 ≤ a ∧ a ≤ 12 then r else s.stn b := by
  unfold State.stn State.setStn
  by_cases hb : b = 0
  · subst hb
    have : ¬ (0 = a ∧ 1 ≤ a ∧ a ≤ 12) := by omega
    simp [this]
  · by_cases ha : a = 0
    · subst ha; simp [hb]
    · simp only [ha, hb, if_false]
      by_cases hm : b - 1 < 12
      · rw [Vector.getElem?_eq_getElem (by simpa using hm), Vector.getElem?_eq_getElem hm]
        simp only [Option.getD_some, Vector.getElem_setIfInBounds]
        by_cases h : a - 1 = b - 1
        · have h1 : b = a := by omega
          have h2 : 1 ≤ a ∧ a ≤ 12 := by omega
          simp [h1, h2]
        · have : ¬ (b = a ∧ 1 ≤ a ∧ a ≤ 12) := by omega
          simp [h, this]
      · rw [Vector.getElem?_eq_none (by simpa using hm), Vector.getElem?_eq_none (by omega)]
        have : ¬ (b = a ∧ 1 ≤ a ∧ a ≤ 12) := by omega
        simp [this]

/-- A channel number above 127 reads as the reset record. -/
theorem State.chan_above (s : State) {n : Nat} (h : 128 ≤ n) : s.chan n = Channel.reset := by
  unfold State.chan
  rw [Vector.getElem?_eq_none (by omega)]; rfl

/-- A fold keeps what each of its steps keeps. -/
theorem foldl_keeps {α β γ : Type} (f : β → γ) (g : β → α → β) (h : ∀ t x, f (g t x) = f t)
    (l : List α) (s : β) : f (l.foldl g s) = f s := by
  induction l generalizing s with
  | nil => rfl
  | cons x xs ih => rw [List.foldl_cons, ih, h]

/-- A fold keeps a property that each of its steps keeps. -/
theorem foldl_invariant {α β : Type} (p : β → Prop) (g : β → α → β) (h : ∀ t x, p t → p (g t x))
    (l : List α) (s : β) (hs : p s) : p (l.foldl g s) := by
  induction l generalizing s with
  | nil => exact hs
  | cons x xs ih => exact ih _ (h _ _ hs)

/-! ## What the setters leave of the two tables -/

@[simp] theorem State.setSched_chan (s : State) (k : Scheduler) : (s.setSched k).chan = s.chan := rfl
@[simp] theorem State.setSched_stn (s : State) (k : Scheduler) : (s.setSched k).stn = s.stn := rfl
@[simp] theorem State.setMon_chan (s : State) (m : Monitor) : (s.setMon m).chan = s.chan := rfl
@[simp] theorem State.setMon_stn (s : State) (m : Monitor) : (s.setMon m).stn = s.stn := rfl
@[simp] theorem State.setBus_chan (s : State) (b : DropBus) : (s.setBus b).chan = s.chan := rfl
@[simp] theorem State.setBus_stn (s : State) (b : DropBus) : (s.setBus b).stn = s.stn := rfl
@[simp] theorem State.setTrip_chan (s : State) (t : TripUnit) : (s.setTrip t).chan = s.chan := rfl
@[simp] theorem State.setTrip_stn (s : State) (t : TripUnit) : (s.setTrip t).stn = s.stn := rfl
@[simp] theorem State.setRing_chan (s : State) (r : RingEngine) : (s.setRing r).chan = s.chan := rfl
@[simp] theorem State.setRing_stn (s : State) (r : RingEngine) : (s.setRing r).stn = s.stn := rfl
@[simp] theorem State.setReq_chan (s : State) (r : RequestEngine) : (s.setReq r).chan = s.chan := rfl
@[simp] theorem State.setReq_stn (s : State) (r : RequestEngine) : (s.setReq r).stn = s.stn := rfl
@[simp] theorem State.setJobs_chan (s : State) (js : List Job) : (s.setJobs js).chan = s.chan := rfl
@[simp] theorem State.setJobs_stn (s : State) (js : List Job) : (s.setJobs js).stn = s.stn := rfl
@[simp] theorem State.setFlight_chan (s : State) (a : Option Access) : (s.setFlight a).chan = s.chan := rfl
@[simp] theorem State.setFlight_stn (s : State) (a : Option Access) : (s.setFlight a).stn = s.stn := rfl
@[simp] theorem State.setIface_chan (s : State) (i : InterfaceState) : (s.setIface i).chan = s.chan := rfl
@[simp] theorem State.setIface_stn (s : State) (i : InterfaceState) : (s.setIface i).stn = s.stn := rfl
@[simp] theorem State.setBacklog_chan (s : State) (b : List Entry) : (s.setBacklog b).chan = s.chan := rfl
@[simp] theorem State.setBacklog_stn (s : State) (b : List Entry) : (s.setBacklog b).stn = s.stn := rfl
@[simp] theorem State.setEventMod_chan (s : State) (m : Moderation) : (s.setEventMod m).chan = s.chan := rfl
@[simp] theorem State.setEventMod_stn (s : State) (m : Moderation) : (s.setEventMod m).stn = s.stn := rfl
@[simp] theorem State.setCompletionMod_chan (s : State) (m : Moderation) : (s.setCompletionMod m).chan = s.chan := rfl
@[simp] theorem State.setCompletionMod_stn (s : State) (m : Moderation) : (s.setCompletionMod m).stn = s.stn := rfl
@[simp] theorem State.setFault_chan (s : State) (f : FaultRegister) : (s.setFault f).chan = s.chan := rfl
@[simp] theorem State.setFault_stn (s : State) (f : FaultRegister) : (s.setFault f).stn = s.stn := rfl
@[simp] theorem State.setPcie_chan (s : State) (p : PciePort) : (s.setPcie p).chan = s.chan := rfl
@[simp] theorem State.setPcie_stn (s : State) (p : PciePort) : (s.setPcie p).stn = s.stn := rfl
@[simp] theorem State.setPort_chan (s : State) (p : RegisterPort) : (s.setPort p).chan = s.chan := rfl
@[simp] theorem State.setPort_stn (s : State) (p : RegisterPort) : (s.setPort p).stn = s.stn := rfl
@[simp] theorem State.post_chan (s : State) (e : Entry) : (s.post e).chan = s.chan := rfl
@[simp] theorem State.post_stn (s : State) (e : Entry) : (s.post e).stn = s.stn := rfl
@[simp] theorem State.complete_chan (s : State) (c : Completion) : (s.complete c).chan = s.chan := rfl
@[simp] theorem State.complete_stn (s : State) (c : Completion) : (s.complete c).stn = s.stn := rfl
@[simp] theorem State.take_chan (s : State) : (s.take).chan = s.chan := rfl
@[simp] theorem State.take_stn (s : State) : (s.take).stn = s.stn := rfl
@[simp] theorem State.setChan_stn (s : State) (n : Nat) (c : Channel) : (s.setChan n c).stn = s.stn := rfl
@[simp] theorem State.setStn_chan (s : State) (a : Nat) (r : Station) : (s.setStn a r).chan = s.chan :=
  State.chan_congr (by simp)

/-! ## The event unit -/

/-- `drainList` changes nothing but: evt, ring. -/
@[simp] theorem State.drainList_keeps (s : State) (b : List Entry) :
    (s.drainList b).pending = s.pending ∧
    (s.drainList b).channels = s.channels ∧
    (s.drainList b).stations = s.stations ∧
    (s.drainList b).trip = s.trip ∧
    (s.drainList b).sched = s.sched ∧
    (s.drainList b).bus = s.bus ∧
    (s.drainList b).mon = s.mon ∧
    (s.drainList b).req = s.req ∧
    (s.drainList b).mem = s.mem ∧
    (s.drainList b).port = s.port ∧
    (s.drainList b).pcie = s.pcie ∧
    (s.drainList b).chan = s.chan ∧
    (s.drainList b).stn = s.stn ∧
    (s.drainList b).ring.iface = s.ring.iface ∧
    (s.drainList b).ring.desc = s.ring.desc ∧
    (s.drainList b).ring.requestHead = s.ring.requestHead ∧
    (s.drainList b).ring.completionTail = s.ring.completionTail ∧
    (s.drainList b).ring.completionLap = s.ring.completionLap ∧
    (s.drainList b).ring.requestTail = s.ring.requestTail ∧
    (s.drainList b).ring.completionHead = s.ring.completionHead ∧
    (s.drainList b).ring.eventHead = s.ring.eventHead ∧
    (s.drainList b).ring.completionMod = s.ring.completionMod ∧
    (s.drainList b).ring.eventMod = s.ring.eventMod ∧
    (s.drainList b).ring.completionWrites = s.ring.completionWrites := by
  induction b generalizing s with
  | nil => simp [State.drainList]
  | cons e es ih =>
    unfold State.drainList
    split
    · have h := ih (s.post e)
      simp [State.post] at h ⊢
      exact h
    · simp

/-- `drain` changes nothing but: evt, ring. -/
@[simp] theorem State.drain_keeps (s : State) :
    (s.drain).pending = s.pending ∧
    (s.drain).channels = s.channels ∧
    (s.drain).stations = s.stations ∧
    (s.drain).trip = s.trip ∧
    (s.drain).sched = s.sched ∧
    (s.drain).bus = s.bus ∧
    (s.drain).mon = s.mon ∧
    (s.drain).req = s.req ∧
    (s.drain).mem = s.mem ∧
    (s.drain).port = s.port ∧
    (s.drain).pcie = s.pcie ∧
    (s.drain).chan = s.chan ∧
    (s.drain).stn = s.stn ∧
    (s.drain).ring.iface = s.ring.iface ∧
    (s.drain).ring.desc = s.ring.desc ∧
    (s.drain).ring.requestHead = s.ring.requestHead ∧
    (s.drain).ring.completionTail = s.ring.completionTail ∧
    (s.drain).ring.completionLap = s.ring.completionLap ∧
    (s.drain).ring.requestTail = s.ring.requestTail ∧
    (s.drain).ring.completionHead = s.ring.completionHead ∧
    (s.drain).ring.eventHead = s.ring.eventHead ∧
    (s.drain).ring.completionMod = s.ring.completionMod ∧
    (s.drain).ring.eventMod = s.ring.eventMod ∧
    (s.drain).ring.completionWrites = s.ring.completionWrites := by
  simp [State.drain]

/-- `notify` changes nothing but: evt, ring. -/
@[simp] theorem State.notify_keeps (s : State) (n : Notice) :
    (s.notify n).pending = s.pending ∧
    (s.notify n).channels = s.channels ∧
    (s.notify n).stations = s.stations ∧
    (s.notify n).trip = s.trip ∧
    (s.notify n).sched = s.sched ∧
    (s.notify n).bus = s.bus ∧
    (s.notify n).mon = s.mon ∧
    (s.notify n).req = s.req ∧
    (s.notify n).mem = s.mem ∧
    (s.notify n).port = s.port ∧
    (s.notify n).pcie = s.pcie ∧
    (s.notify n).chan = s.chan ∧
    (s.notify n).stn = s.stn ∧
    (s.notify n).ring.iface = s.ring.iface ∧
    (s.notify n).ring.desc = s.ring.desc ∧
    (s.notify n).ring.requestHead = s.ring.requestHead ∧
    (s.notify n).ring.completionTail = s.ring.completionTail ∧
    (s.notify n).ring.completionLap = s.ring.completionLap ∧
    (s.notify n).ring.requestTail = s.ring.requestTail ∧
    (s.notify n).ring.completionHead = s.ring.completionHead ∧
    (s.notify n).ring.eventHead = s.ring.eventHead ∧
    (s.notify n).ring.completionMod = s.ring.completionMod ∧
    (s.notify n).ring.eventMod = s.ring.eventMod ∧
    (s.notify n).ring.completionWrites = s.ring.completionWrites := by
  unfold State.notify; split_ifs <;> simp [State.post] <;> exact ⟨rfl, rfl⟩

/-- `discardEntry` changes nothing but: evt. -/
@[simp] theorem State.discardEntry_keeps (s : State) (n : Nat) :
    (s.discardEntry n).1.pending = s.pending ∧
    (s.discardEntry n).1.channels = s.channels ∧
    (s.discardEntry n).1.stations = s.stations ∧
    (s.discardEntry n).1.trip = s.trip ∧
    (s.discardEntry n).1.sched = s.sched ∧
    (s.discardEntry n).1.bus = s.bus ∧
    (s.discardEntry n).1.mon = s.mon ∧
    (s.discardEntry n).1.req = s.req ∧
    (s.discardEntry n).1.ring = s.ring ∧
    (s.discardEntry n).1.mem = s.mem ∧
    (s.discardEntry n).1.port = s.port ∧
    (s.discardEntry n).1.pcie = s.pcie ∧
    (s.discardEntry n).1.chan = s.chan ∧
    (s.discardEntry n).1.stn = s.stn := by
  unfold State.discardEntry; split_ifs <;> simp; exact ⟨rfl, rfl⟩

/-! ## The trip unit -/

/-- `raiseCause` changes nothing but: evt, trip, ring. -/
@[simp] theorem State.raiseCause_keeps (s : State) (k : CauseKind) (b : Byte) :
    (s.raiseCause k b).pending = s.pending ∧
    (s.raiseCause k b).channels = s.channels ∧
    (s.raiseCause k b).stations = s.stations ∧
    (s.raiseCause k b).sched = s.sched ∧
    (s.raiseCause k b).bus = s.bus ∧
    (s.raiseCause k b).mon = s.mon ∧
    (s.raiseCause k b).req = s.req ∧
    (s.raiseCause k b).mem = s.mem ∧
    (s.raiseCause k b).port = s.port ∧
    (s.raiseCause k b).pcie = s.pcie ∧
    (s.raiseCause k b).chan = s.chan ∧
    (s.raiseCause k b).stn = s.stn ∧
    (s.raiseCause k b).ring.iface = s.ring.iface ∧
    (s.raiseCause k b).ring.desc = s.ring.desc ∧
    (s.raiseCause k b).ring.requestHead = s.ring.requestHead ∧
    (s.raiseCause k b).ring.completionTail = s.ring.completionTail ∧
    (s.raiseCause k b).ring.completionLap = s.ring.completionLap ∧
    (s.raiseCause k b).ring.requestTail = s.ring.requestTail ∧
    (s.raiseCause k b).ring.completionHead = s.ring.completionHead ∧
    (s.raiseCause k b).ring.eventHead = s.ring.eventHead ∧
    (s.raiseCause k b).ring.completionMod = s.ring.completionMod ∧
    (s.raiseCause k b).ring.eventMod = s.ring.eventMod ∧
    (s.raiseCause k b).ring.completionWrites = s.ring.completionWrites := by
  unfold State.raiseCause; split <;> simp

/-- `releaseTest` changes nothing but: evt, trip, ring. -/
@[simp] theorem State.releaseTest_keeps (s : State) :
    (s.releaseTest).pending = s.pending ∧
    (s.releaseTest).channels = s.channels ∧
    (s.releaseTest).stations = s.stations ∧
    (s.releaseTest).sched = s.sched ∧
    (s.releaseTest).bus = s.bus ∧
    (s.releaseTest).mon = s.mon ∧
    (s.releaseTest).req = s.req ∧
    (s.releaseTest).mem = s.mem ∧
    (s.releaseTest).port = s.port ∧
    (s.releaseTest).pcie = s.pcie ∧
    (s.releaseTest).chan = s.chan ∧
    (s.releaseTest).stn = s.stn ∧
    (s.releaseTest).ring.iface = s.ring.iface ∧
    (s.releaseTest).ring.desc = s.ring.desc ∧
    (s.releaseTest).ring.requestHead = s.ring.requestHead ∧
    (s.releaseTest).ring.completionTail = s.ring.completionTail ∧
    (s.releaseTest).ring.completionLap = s.ring.completionLap ∧
    (s.releaseTest).ring.requestTail = s.ring.requestTail ∧
    (s.releaseTest).ring.completionHead = s.ring.completionHead ∧
    (s.releaseTest).ring.eventHead = s.ring.eventHead ∧
    (s.releaseTest).ring.completionMod = s.ring.completionMod ∧
    (s.releaseTest).ring.eventMod = s.ring.eventMod ∧
    (s.releaseTest).ring.completionWrites = s.ring.completionWrites := by
  unfold State.releaseTest; split_ifs <;> simp

/-- `memberReport` changes nothing but: evt, trip, ring. -/
@[simp] theorem State.memberReport_keeps (s : State) (n : Nat) (b a : Condition) (k : ReportKind) :
    (s.memberReport n b a k).pending = s.pending ∧
    (s.memberReport n b a k).channels = s.channels ∧
    (s.memberReport n b a k).stations = s.stations ∧
    (s.memberReport n b a k).sched = s.sched ∧
    (s.memberReport n b a k).bus = s.bus ∧
    (s.memberReport n b a k).mon = s.mon ∧
    (s.memberReport n b a k).req = s.req ∧
    (s.memberReport n b a k).mem = s.mem ∧
    (s.memberReport n b a k).port = s.port ∧
    (s.memberReport n b a k).pcie = s.pcie ∧
    (s.memberReport n b a k).chan = s.chan ∧
    (s.memberReport n b a k).stn = s.stn ∧
    (s.memberReport n b a k).ring.iface = s.ring.iface ∧
    (s.memberReport n b a k).ring.desc = s.ring.desc ∧
    (s.memberReport n b a k).ring.requestHead = s.ring.requestHead ∧
    (s.memberReport n b a k).ring.completionTail = s.ring.completionTail ∧
    (s.memberReport n b a k).ring.completionLap = s.ring.completionLap ∧
    (s.memberReport n b a k).ring.requestTail = s.ring.requestTail ∧
    (s.memberReport n b a k).ring.completionHead = s.ring.completionHead ∧
    (s.memberReport n b a k).ring.eventHead = s.ring.eventHead ∧
    (s.memberReport n b a k).ring.completionMod = s.ring.completionMod ∧
    (s.memberReport n b a k).ring.eventMod = s.ring.eventMod ∧
    (s.memberReport n b a k).ring.completionWrites = s.ring.completionWrites := by
  unfold State.memberReport; cases k <;> simp <;> split <;> simp

/-- `clearGuardMark` changes nothing but: trip. -/
@[simp] theorem State.clearGuardMark_keeps (s : State) :
    (s.clearGuardMark).pending = s.pending ∧
    (s.clearGuardMark).channels = s.channels ∧
    (s.clearGuardMark).stations = s.stations ∧
    (s.clearGuardMark).evt = s.evt ∧
    (s.clearGuardMark).sched = s.sched ∧
    (s.clearGuardMark).bus = s.bus ∧
    (s.clearGuardMark).mon = s.mon ∧
    (s.clearGuardMark).req = s.req ∧
    (s.clearGuardMark).ring = s.ring ∧
    (s.clearGuardMark).mem = s.mem ∧
    (s.clearGuardMark).port = s.port ∧
    (s.clearGuardMark).pcie = s.pcie ∧
    (s.clearGuardMark).chan = s.chan ∧
    (s.clearGuardMark).stn = s.stn := by
  simp [State.clearGuardMark]

/-- `guardReading` changes nothing but: evt, trip, ring. -/
@[simp] theorem State.guardReading_keeps (s : State) (v : Count) (q : Bool) :
    (s.guardReading v q).pending = s.pending ∧
    (s.guardReading v q).channels = s.channels ∧
    (s.guardReading v q).stations = s.stations ∧
    (s.guardReading v q).sched = s.sched ∧
    (s.guardReading v q).bus = s.bus ∧
    (s.guardReading v q).mon = s.mon ∧
    (s.guardReading v q).req = s.req ∧
    (s.guardReading v q).mem = s.mem ∧
    (s.guardReading v q).port = s.port ∧
    (s.guardReading v q).pcie = s.pcie ∧
    (s.guardReading v q).chan = s.chan ∧
    (s.guardReading v q).stn = s.stn ∧
    (s.guardReading v q).ring.iface = s.ring.iface ∧
    (s.guardReading v q).ring.desc = s.ring.desc ∧
    (s.guardReading v q).ring.requestHead = s.ring.requestHead ∧
    (s.guardReading v q).ring.completionTail = s.ring.completionTail ∧
    (s.guardReading v q).ring.completionLap = s.ring.completionLap ∧
    (s.guardReading v q).ring.requestTail = s.ring.requestTail ∧
    (s.guardReading v q).ring.completionHead = s.ring.completionHead ∧
    (s.guardReading v q).ring.eventHead = s.ring.eventHead ∧
    (s.guardReading v q).ring.completionMod = s.ring.completionMod ∧
    (s.guardReading v q).ring.eventMod = s.ring.eventMod ∧
    (s.guardReading v q).ring.completionWrites = s.ring.completionWrites := by
  unfold State.guardReading; split_ifs <;> simp

/-- `guardLost` changes nothing but: evt, trip, ring. -/
@[simp] theorem State.guardLost_keeps (s : State) :
    (s.guardLost).pending = s.pending ∧
    (s.guardLost).channels = s.channels ∧
    (s.guardLost).stations = s.stations ∧
    (s.guardLost).sched = s.sched ∧
    (s.guardLost).bus = s.bus ∧
    (s.guardLost).mon = s.mon ∧
    (s.guardLost).req = s.req ∧
    (s.guardLost).mem = s.mem ∧
    (s.guardLost).port = s.port ∧
    (s.guardLost).pcie = s.pcie ∧
    (s.guardLost).chan = s.chan ∧
    (s.guardLost).stn = s.stn ∧
    (s.guardLost).ring.iface = s.ring.iface ∧
    (s.guardLost).ring.desc = s.ring.desc ∧
    (s.guardLost).ring.requestHead = s.ring.requestHead ∧
    (s.guardLost).ring.completionTail = s.ring.completionTail ∧
    (s.guardLost).ring.completionLap = s.ring.completionLap ∧
    (s.guardLost).ring.requestTail = s.ring.requestTail ∧
    (s.guardLost).ring.completionHead = s.ring.completionHead ∧
    (s.guardLost).ring.eventHead = s.ring.eventHead ∧
    (s.guardLost).ring.completionMod = s.ring.completionMod ∧
    (s.guardLost).ring.eventMod = s.ring.eventMod ∧
    (s.guardLost).ring.completionWrites = s.ring.completionWrites := by
  simp [State.guardLost]

/-- `tripGuardEnded` changes nothing but: evt, trip, ring. -/
@[simp] theorem State.tripGuardEnded_keeps (s : State) :
    (s.tripGuardEnded).pending = s.pending ∧
    (s.tripGuardEnded).channels = s.channels ∧
    (s.tripGuardEnded).stations = s.stations ∧
    (s.tripGuardEnded).sched = s.sched ∧
    (s.tripGuardEnded).bus = s.bus ∧
    (s.tripGuardEnded).mon = s.mon ∧
    (s.tripGuardEnded).req = s.req ∧
    (s.tripGuardEnded).mem = s.mem ∧
    (s.tripGuardEnded).port = s.port ∧
    (s.tripGuardEnded).pcie = s.pcie ∧
    (s.tripGuardEnded).chan = s.chan ∧
    (s.tripGuardEnded).stn = s.stn ∧
    (s.tripGuardEnded).ring.iface = s.ring.iface ∧
    (s.tripGuardEnded).ring.desc = s.ring.desc ∧
    (s.tripGuardEnded).ring.requestHead = s.ring.requestHead ∧
    (s.tripGuardEnded).ring.completionTail = s.ring.completionTail ∧
    (s.tripGuardEnded).ring.completionLap = s.ring.completionLap ∧
    (s.tripGuardEnded).ring.requestTail = s.ring.requestTail ∧
    (s.tripGuardEnded).ring.completionHead = s.ring.completionHead ∧
    (s.tripGuardEnded).ring.eventHead = s.ring.eventHead ∧
    (s.tripGuardEnded).ring.completionMod = s.ring.completionMod ∧
    (s.tripGuardEnded).ring.eventMod = s.ring.eventMod ∧
    (s.tripGuardEnded).ring.completionWrites = s.ring.completionWrites := by
  simp [State.tripGuardEnded]

/-- `tripLinkFaulted` changes nothing but: trip. -/
@[simp] theorem State.tripLinkFaulted_keeps (s : State) :
    (s.tripLinkFaulted).pending = s.pending ∧
    (s.tripLinkFaulted).channels = s.channels ∧
    (s.tripLinkFaulted).stations = s.stations ∧
    (s.tripLinkFaulted).evt = s.evt ∧
    (s.tripLinkFaulted).sched = s.sched ∧
    (s.tripLinkFaulted).bus = s.bus ∧
    (s.tripLinkFaulted).mon = s.mon ∧
    (s.tripLinkFaulted).req = s.req ∧
    (s.tripLinkFaulted).ring = s.ring ∧
    (s.tripLinkFaulted).mem = s.mem ∧
    (s.tripLinkFaulted).port = s.port ∧
    (s.tripLinkFaulted).pcie = s.pcie ∧
    (s.tripLinkFaulted).chan = s.chan ∧
    (s.tripLinkFaulted).stn = s.stn := by
  simp [State.tripLinkFaulted]

/-- `raiseLinkCause` changes nothing but: evt, trip, ring. -/
@[simp] theorem State.raiseLinkCause_keeps (s : State) :
    (s.raiseLinkCause).pending = s.pending ∧
    (s.raiseLinkCause).channels = s.channels ∧
    (s.raiseLinkCause).stations = s.stations ∧
    (s.raiseLinkCause).sched = s.sched ∧
    (s.raiseLinkCause).bus = s.bus ∧
    (s.raiseLinkCause).mon = s.mon ∧
    (s.raiseLinkCause).req = s.req ∧
    (s.raiseLinkCause).mem = s.mem ∧
    (s.raiseLinkCause).port = s.port ∧
    (s.raiseLinkCause).pcie = s.pcie ∧
    (s.raiseLinkCause).chan = s.chan ∧
    (s.raiseLinkCause).stn = s.stn ∧
    (s.raiseLinkCause).ring.iface = s.ring.iface ∧
    (s.raiseLinkCause).ring.desc = s.ring.desc ∧
    (s.raiseLinkCause).ring.requestHead = s.ring.requestHead ∧
    (s.raiseLinkCause).ring.completionTail = s.ring.completionTail ∧
    (s.raiseLinkCause).ring.completionLap = s.ring.completionLap ∧
    (s.raiseLinkCause).ring.requestTail = s.ring.requestTail ∧
    (s.raiseLinkCause).ring.completionHead = s.ring.completionHead ∧
    (s.raiseLinkCause).ring.eventHead = s.ring.eventHead ∧
    (s.raiseLinkCause).ring.completionMod = s.ring.completionMod ∧
    (s.raiseLinkCause).ring.eventMod = s.ring.eventMod ∧
    (s.raiseLinkCause).ring.completionWrites = s.ring.completionWrites := by
  simp [State.raiseLinkCause]

/-! ## What the tests of the commands ask, in the manual's words -/

/-- A set of limits is valid when each enabled limit is less than every enabled limit after it, and
the hysteresis is in its range (R5). -/
theorem Limits.valid_iff (l : Limits) (f : Format) :
    let below : Option Count → Option Count → Prop := fun x y =>
      ∀ c d, x = some c → y = some d → f.value c < f.value d
    l.valid f = true ↔ below l.criticalLow l.low ∧ below l.criticalLow l.high
      ∧ below l.criticalLow l.criticalHigh ∧ below l.low l.high ∧ below l.low l.criticalHigh
      ∧ below l.high l.criticalHigh ∧ l.hysteresis.toNat ≤ 4095 := by
  have both : ∀ a b : Count, (∀ c d, some a = some c → some b = some d → f.value c < f.value d)
      ↔ f.value a < f.value b := by simp
  have first : ∀ b, (∀ c d, (none : Option Count) = some c → b = some d → f.value c < f.value d)
      ↔ True := by simp
  have second : ∀ a, (∀ c d, a = some c → (none : Option Count) = some d → f.value c < f.value d)
      ↔ True := by simp
  have range : Config.maxHysteresis = 4095 := rfl
  rcases l with ⟨cl, lo, hi, ch, h⟩
  cases cl <;> cases lo <;> cases hi <;> cases ch <;>
    simp only [Limits.valid, strictlyRising, both, first, second, List.filterMap, List.map, id,
      Bool.and_eq_true, decide_eq_true_eq, true_and, and_true, range] <;> omega

/-- A recovery has a step ready in every stage but the retry wait (R142). -/
theorem State.recoveryNext_ready (s : State) : s.recoveryNext ≠ .nothing ↔
    ∃ v, s.mon.recovery = some v ∧ ∀ since, v.stage ≠ .retryWait since := by
  unfold State.recoveryNext
  cases s.mon.recovery with
  | none => simp
  | some v =>
    rcases v with ⟨st, r⟩
    cases st <;> simp
    split <;> simp

/-- The SETUP rank has work (05, section 5.1). -/
theorem State.setupNext_ready (s : State) : s.setupNext ≠ .nothing ↔
    (s.mon.state = .guarding ∧ ((∃ sent p, s.mon.guardStage = some (.startup sent p))
      ∨ (s.mon.guardStage = some .lineRecovery ∧ s.recoveryNext ≠ .nothing)))
    ∨ (s.mon.state = .enumerating ∧ s.mon.enumeration ≠ none)
    ∨ (s.mon.state = .recovering ∧ s.recoveryNext ≠ .nothing) := by
  unfold State.setupNext
  cases s.mon.state <;> simp
  · cases s.mon.guardStage with
    | none => simp
    | some g =>
      cases g <;> simp
      rename_i sent p
      cases sent <;> simp
      split <;> simp
  · cases s.mon.enumeration <;> simp
    split <;> simp

/-- The ATTENTION rank has work (05, section 5.1). -/
theorem State.attentionHasWork_iff (s : State) : s.attentionHasWork = true ↔
    s.mon.state = .monitoring ∧ s.sched.attnStuck = false
      ∧ ((s.bus.attnLow = true ∧ s.mon.params.attentionUse = true)
        ∨ ∃ a, 1 ≤ a ∧ a ≤ 12 ∧ (s.stn a).state = .adopted
          ∧ ∃ f < 4, (s.stn a).owed.getLsbD f = true ∧ (s.stn a).plan.attn.getLsbD f = true) := by
  have bits : ∀ x y : BitVec 4, ((x &&& y) != 0) = true
      ↔ ∃ f < 4, x.getLsbD f = true ∧ y.getLsbD f = true := by decide
  have mem : ∀ a, a ∈ addresses ↔ 1 ≤ a ∧ a ≤ 12 := by
    intro a
    simp only [addresses, Config.stationCount, List.mem_map, List.mem_range]
    exact ⟨fun ⟨b, h, e⟩ => by omega, fun h => ⟨a - 1, by omega, by omega⟩⟩
  simp only [State.attentionHasWork, Bool.and_eq_true, Bool.or_eq_true, beq_iff_eq,
    Bool.not_eq_true', and_assoc, List.any_eq_true, State.owesAttention, mem, bits]

/-- The JOB rank has work (R88, R103). -/
theorem State.jobReady_iff (s : State) : s.jobReady = true ↔
    s.mon.state = .monitoring ∧ ∃ j js, s.sched.jobs = j :: js ∧ j.abandoned = false
      ∧ ∀ f since, j.work = .fresh f → f.stage ≠ .waiting since := by
  unfold State.jobReady
  cases s.sched.jobs with
  | nil => simp
  | cons j js =>
    rcases j with ⟨order, abandoned, work⟩
    cases work with
    | rescan => simp
    | fresh f =>
      rcases f with ⟨_, _, _, stage⟩
      cases stage <;> simp <;> (intro _ _ f since h; subst h; simp)

/-- The job's own transaction is on the bus (R103, R165). -/
theorem State.onBus_iff (s : State) (j : LinkJob) : s.onBus j = true ↔
    (∃ h rest, s.sched.jobs = h :: rest ∧ h.order = j.order)
      ∧ ∃ x, s.bus.txn = some x ∧ x.activity = .job ∧ x.orphan = false := by
  unfold State.onBus Scheduler.isRunning
  cases s.sched.jobs <;> cases s.bus.txn <;> simp

/-! ## Identities and probes -/

/-- The identity has been read when both its parts have been (R69). -/
theorem Station.identity_isSome (r : Station) :
    r.identity.isSome = true ↔ r.classRev.isSome = true ∧ r.shape.isSome = true := by
  unfold Station.identity
  cases r.classRev <;> cases r.shape <;> simp

/-- The shape of an identity as last read is the shape as last read. -/
theorem Station.shape_of_identity {r : Station} {fp : Fingerprint} (h : r.identity = some fp) :
    r.shape = some fp.shape := by
  unfold Station.identity at h
  split at h
  · next e => injection h with h; subst h; exact e
  · cases h

/-- Where a fingerprint is present and the identity has not changed, the identity is the fingerprint. -/
theorem Station.identity_of_unchanged {r : Station} {fp : Fingerprint}
    (h : r.identityChanged = false) (hf : r.fingerprint = some fp) : r.identity = some fp := by
  unfold Station.identityChanged at h
  rw [hf] at h
  simpa using h

/-- What a step needs stays there while parts of the identity are only read, never lost. -/
theorem Station.readBefore_mono {r q : Station} {step : ProbeStep} (h : r.readBefore step)
    (hc : r.classRev.isSome = true → q.classRev.isSome = true)
    (hs : r.shape.isSome = true → q.shape.isSome = true) : q.readBefore step := by
  have both : r.identity.isSome = true → q.identity.isSome = true := fun k =>
    q.identity_isSome.2 ⟨hc (r.identity_isSome.1 k).1, hs (r.identity_isSome.1 k).2⟩
  cases step
  · trivial
  · exact hc h
  · exact both h
  · exact both h

/-- Past a transaction, a probe goes on only at the step after the one that the transaction made, at its
address, while the activity holds it (R67). -/
theorem State.walkPast_probe {s : State} {act : Activity} {t : Transaction} {p : Probe}
    (h : (s.walkPast act t).probe = some p) : ∃ step written,
      t.purpose = .probeStep step written ∧ s.holds act t.address = true
        ∧ p = { address := t.address, step := step.next, written := written } := by
  unfold State.walkPast at h
  split at h
  · next step written e =>
    unfold State.walkAfter at h
    split at h
    · next held => injection h with h; exact ⟨step, written, e, held, h.symm⟩
    · cases h
  · cases h

/-- The next probe of a walk is the one in progress or one before its first step (R67). -/
theorem State.walkNext_probe {s : State} {act : Activity} {as : List Nat} {w : ProbeWalk} {p : Probe}
    (h : s.walkNext act as w = some p) : w.probe = some p ∨ p.step = .id0 := by
  unfold State.walkNext at h
  split at h
  · next q e =>
    split at h
    · injection h with h; subst h; exact .inl e
    · obtain ⟨a, -, rfl⟩ := Option.map_eq_some_iff.1 h; exact .inr rfl
  · obtain ⟨a, -, rfl⟩ := Option.map_eq_some_iff.1 h; exact .inr rfl

end Sys2Proof.Machine
end

