-- ==== Sys2Proof/Laws/Blocks.lean ====
section
/-! SUPPORT. What the shared operations of the condition unit, the request engine, the link
scheduler, the station roster and the monitor controller leave unchanged. -/

namespace Sys2Proof.Machine

/-- Folds over the channel numbers or the addresses keep what each step keeps. -/
theorem State.fold_keeps {γ : Type} (f : State → γ) (g : State → Nat → State)
    (h : ∀ t n, f (g t n) = f t) (l : List Nat) (s : State) : f (l.foldl g s) = f s :=
  foldl_keeps f g h l s

/-! ## The trip unit at LINK_RESTORED -/

/-- `tripLinkRestored` changes nothing but: evt, trip, ring. -/
@[simp] theorem State.tripLinkRestored_keeps (s : State) :
    (s.tripLinkRestored).pending = s.pending ∧
    (s.tripLinkRestored).channels = s.channels ∧
    (s.tripLinkRestored).stations = s.stations ∧
    (s.tripLinkRestored).sched = s.sched ∧
    (s.tripLinkRestored).bus = s.bus ∧
    (s.tripLinkRestored).mon = s.mon ∧
    (s.tripLinkRestored).req = s.req ∧
    (s.tripLinkRestored).mem = s.mem ∧
    (s.tripLinkRestored).port = s.port ∧
    (s.tripLinkRestored).pcie = s.pcie ∧
    (s.tripLinkRestored).chan = s.chan ∧
    (s.tripLinkRestored).stn = s.stn ∧
    (s.tripLinkRestored).ring.iface = s.ring.iface ∧
    (s.tripLinkRestored).ring.desc = s.ring.desc ∧
    (s.tripLinkRestored).ring.requestHead = s.ring.requestHead ∧
    (s.tripLinkRestored).ring.completionTail = s.ring.completionTail ∧
    (s.tripLinkRestored).ring.completionLap = s.ring.completionLap ∧
    (s.tripLinkRestored).ring.requestTail = s.ring.requestTail ∧
    (s.tripLinkRestored).ring.completionHead = s.ring.completionHead ∧
    (s.tripLinkRestored).ring.eventHead = s.ring.eventHead ∧
    (s.tripLinkRestored).ring.completionMod = s.ring.completionMod ∧
    (s.tripLinkRestored).ring.eventMod = s.ring.eventMod ∧
    (s.tripLinkRestored).ring.completionWrites = s.ring.completionWrites := by
  have h := foldl_invariant (fun t : State => t.pending = s.pending ∧ t.channels = s.channels ∧
      t.stations = s.stations ∧ t.sched = s.sched ∧ t.bus = s.bus ∧ t.mon = s.mon ∧ t.req = s.req ∧
      t.mem = s.mem ∧ t.port = s.port ∧ t.pcie = s.pcie ∧ t.chan = s.chan ∧ t.stn = s.stn ∧
      t.ring.iface = s.ring.iface ∧ t.ring.desc = s.ring.desc ∧ t.ring.requestHead = s.ring.requestHead ∧
      t.ring.completionTail = s.ring.completionTail ∧ t.ring.completionLap = s.ring.completionLap ∧
      t.ring.requestTail = s.ring.requestTail ∧ t.ring.completionHead = s.ring.completionHead ∧
      t.ring.eventHead = s.ring.eventHead ∧ t.ring.completionMod = s.ring.completionMod ∧
      t.ring.eventMod = s.ring.eventMod ∧ t.ring.completionWrites = s.ring.completionWrites)
    (fun t n => if (t.chan n).isMember && (t.chan n).condition == .unreachable then
      t.raiseCause .memberFault (byteOf n) else t)
    (fun t n h => by split_ifs <;> simpa using h) channelNumbers s (by simp)
  unfold State.tripLinkRestored
  simpa using h

/-! ## The condition unit -/

/-- `settle` changes nothing but: channels, evt, trip, ring. -/
@[simp] theorem State.settle_keeps (s : State) (n : Nat) (c : Condition) (r : Option Reason) (k : ReportKind) (a : Bool) :
    (s.settle n c r k a).pending = s.pending ∧
    (s.settle n c r k a).stations = s.stations ∧
    (s.settle n c r k a).sched = s.sched ∧
    (s.settle n c r k a).bus = s.bus ∧
    (s.settle n c r k a).mon = s.mon ∧
    (s.settle n c r k a).req = s.req ∧
    (s.settle n c r k a).mem = s.mem ∧
    (s.settle n c r k a).port = s.port ∧
    (s.settle n c r k a).pcie = s.pcie ∧
    (s.settle n c r k a).stn = s.stn ∧
    (s.settle n c r k a).ring.iface = s.ring.iface ∧
    (s.settle n c r k a).ring.desc = s.ring.desc ∧
    (s.settle n c r k a).ring.requestHead = s.ring.requestHead ∧
    (s.settle n c r k a).ring.completionTail = s.ring.completionTail ∧
    (s.settle n c r k a).ring.completionLap = s.ring.completionLap ∧
    (s.settle n c r k a).ring.requestTail = s.ring.requestTail ∧
    (s.settle n c r k a).ring.completionHead = s.ring.completionHead ∧
    (s.settle n c r k a).ring.eventHead = s.ring.eventHead ∧
    (s.settle n c r k a).ring.completionMod = s.ring.completionMod ∧
    (s.settle n c r k a).ring.eventMod = s.ring.eventMod ∧
    (s.settle n c r k a).ring.completionWrites = s.ring.completionWrites := by
  unfold State.settle; simp only; split_ifs <;> simp

/-- `reading` changes nothing but: channels, evt, trip, ring. -/
@[simp] theorem State.reading_keeps (s : State) (n : Nat) (g : BitVec 8) (v : Count) (q : Quality) (f : Bool) :
    (s.reading n g v q f).pending = s.pending ∧
    (s.reading n g v q f).stations = s.stations ∧
    (s.reading n g v q f).sched = s.sched ∧
    (s.reading n g v q f).bus = s.bus ∧
    (s.reading n g v q f).mon = s.mon ∧
    (s.reading n g v q f).req = s.req ∧
    (s.reading n g v q f).mem = s.mem ∧
    (s.reading n g v q f).port = s.port ∧
    (s.reading n g v q f).pcie = s.pcie ∧
    (s.reading n g v q f).stn = s.stn ∧
    (s.reading n g v q f).ring.iface = s.ring.iface ∧
    (s.reading n g v q f).ring.desc = s.ring.desc ∧
    (s.reading n g v q f).ring.requestHead = s.ring.requestHead ∧
    (s.reading n g v q f).ring.completionTail = s.ring.completionTail ∧
    (s.reading n g v q f).ring.completionLap = s.ring.completionLap ∧
    (s.reading n g v q f).ring.requestTail = s.ring.requestTail ∧
    (s.reading n g v q f).ring.completionHead = s.ring.completionHead ∧
    (s.reading n g v q f).ring.eventHead = s.ring.eventHead ∧
    (s.reading n g v q f).ring.completionMod = s.ring.completionMod ∧
    (s.reading n g v q f).ring.eventMod = s.ring.eventMod ∧
    (s.reading n g v q f).ring.completionWrites = s.ring.completionWrites := by
  unfold State.reading; simp only; split_ifs <;> (try split) <;> (try split_ifs) <;> simp

/-- `freshness` changes nothing but: channels, evt, trip, ring. -/
@[simp] theorem State.freshness_keeps (s : State) :
    (s.freshness).pending = s.pending ∧
    (s.freshness).stations = s.stations ∧
    (s.freshness).sched = s.sched ∧
    (s.freshness).bus = s.bus ∧
    (s.freshness).mon = s.mon ∧
    (s.freshness).req = s.req ∧
    (s.freshness).mem = s.mem ∧
    (s.freshness).port = s.port ∧
    (s.freshness).pcie = s.pcie ∧
    (s.freshness).stn = s.stn ∧
    (s.freshness).ring.iface = s.ring.iface ∧
    (s.freshness).ring.desc = s.ring.desc ∧
    (s.freshness).ring.requestHead = s.ring.requestHead ∧
    (s.freshness).ring.completionTail = s.ring.completionTail ∧
    (s.freshness).ring.completionLap = s.ring.completionLap ∧
    (s.freshness).ring.requestTail = s.ring.requestTail ∧
    (s.freshness).ring.completionHead = s.ring.completionHead ∧
    (s.freshness).ring.eventHead = s.ring.eventHead ∧
    (s.freshness).ring.completionMod = s.ring.completionMod ∧
    (s.freshness).ring.eventMod = s.ring.eventMod ∧
    (s.freshness).ring.completionWrites = s.ring.completionWrites := by
  unfold State.freshness
  exact foldl_invariant (fun t : State => t.pending = s.pending ∧ t.stations = s.stations ∧
      t.sched = s.sched ∧ t.bus = s.bus ∧ t.mon = s.mon ∧ t.req = s.req ∧ t.mem = s.mem ∧
      t.port = s.port ∧ t.pcie = s.pcie ∧ t.stn = s.stn ∧ t.ring.iface = s.ring.iface ∧
      t.ring.desc = s.ring.desc ∧ t.ring.requestHead = s.ring.requestHead ∧
      t.ring.completionTail = s.ring.completionTail ∧ t.ring.completionLap = s.ring.completionLap ∧
      t.ring.requestTail = s.ring.requestTail ∧ t.ring.completionHead = s.ring.completionHead ∧
      t.ring.eventHead = s.ring.eventHead ∧ t.ring.completionMod = s.ring.completionMod ∧
      t.ring.eventMod = s.ring.eventMod ∧ t.ring.completionWrites = s.ring.completionWrites) _
    (fun t n h => by split_ifs <;> simpa using h) _ s (by simp)

/-- `channelsUnreachable` changes nothing but: channels, evt, trip, ring. -/
@[simp] theorem State.channelsUnreachable_keeps (s : State) (a : Nat) (st : StationState) :
    (s.channelsUnreachable a st).pending = s.pending ∧
    (s.channelsUnreachable a st).stations = s.stations ∧
    (s.channelsUnreachable a st).sched = s.sched ∧
    (s.channelsUnreachable a st).bus = s.bus ∧
    (s.channelsUnreachable a st).mon = s.mon ∧
    (s.channelsUnreachable a st).req = s.req ∧
    (s.channelsUnreachable a st).mem = s.mem ∧
    (s.channelsUnreachable a st).port = s.port ∧
    (s.channelsUnreachable a st).pcie = s.pcie ∧
    (s.channelsUnreachable a st).stn = s.stn ∧
    (s.channelsUnreachable a st).ring.iface = s.ring.iface ∧
    (s.channelsUnreachable a st).ring.desc = s.ring.desc ∧
    (s.channelsUnreachable a st).ring.requestHead = s.ring.requestHead ∧
    (s.channelsUnreachable a st).ring.completionTail = s.ring.completionTail ∧
    (s.channelsUnreachable a st).ring.completionLap = s.ring.completionLap ∧
    (s.channelsUnreachable a st).ring.requestTail = s.ring.requestTail ∧
    (s.channelsUnreachable a st).ring.completionHead = s.ring.completionHead ∧
    (s.channelsUnreachable a st).ring.eventHead = s.ring.eventHead ∧
    (s.channelsUnreachable a st).ring.completionMod = s.ring.completionMod ∧
    (s.channelsUnreachable a st).ring.eventMod = s.ring.eventMod ∧
    (s.channelsUnreachable a st).ring.completionWrites = s.ring.completionWrites := by
  unfold State.channelsUnreachable
  exact foldl_invariant (fun t : State => t.pending = s.pending ∧ t.stations = s.stations ∧
      t.sched = s.sched ∧ t.bus = s.bus ∧ t.mon = s.mon ∧ t.req = s.req ∧ t.mem = s.mem ∧
      t.port = s.port ∧ t.pcie = s.pcie ∧ t.stn = s.stn ∧ t.ring.iface = s.ring.iface ∧
      t.ring.desc = s.ring.desc ∧ t.ring.requestHead = s.ring.requestHead ∧
      t.ring.completionTail = s.ring.completionTail ∧ t.ring.completionLap = s.ring.completionLap ∧
      t.ring.requestTail = s.ring.requestTail ∧ t.ring.completionHead = s.ring.completionHead ∧
      t.ring.eventHead = s.ring.eventHead ∧ t.ring.completionMod = s.ring.completionMod ∧
      t.ring.eventMod = s.ring.eventMod ∧ t.ring.completionWrites = s.ring.completionWrites) _
    (fun t n h => by split_ifs <;> simpa using h) _ s (by simp)

/-- `channelsAdopted` changes nothing but: channels, evt, trip, ring. -/
@[simp] theorem State.channelsAdopted_keeps (s : State) (a : Nat) :
    (s.channelsAdopted a).pending = s.pending ∧
    (s.channelsAdopted a).stations = s.stations ∧
    (s.channelsAdopted a).sched = s.sched ∧
    (s.channelsAdopted a).bus = s.bus ∧
    (s.channelsAdopted a).mon = s.mon ∧
    (s.channelsAdopted a).req = s.req ∧
    (s.channelsAdopted a).mem = s.mem ∧
    (s.channelsAdopted a).port = s.port ∧
    (s.channelsAdopted a).pcie = s.pcie ∧
    (s.channelsAdopted a).stn = s.stn ∧
    (s.channelsAdopted a).ring.iface = s.ring.iface ∧
    (s.channelsAdopted a).ring.desc = s.ring.desc ∧
    (s.channelsAdopted a).ring.requestHead = s.ring.requestHead ∧
    (s.channelsAdopted a).ring.completionTail = s.ring.completionTail ∧
    (s.channelsAdopted a).ring.completionLap = s.ring.completionLap ∧
    (s.channelsAdopted a).ring.requestTail = s.ring.requestTail ∧
    (s.channelsAdopted a).ring.completionHead = s.ring.completionHead ∧
    (s.channelsAdopted a).ring.eventHead = s.ring.eventHead ∧
    (s.channelsAdopted a).ring.completionMod = s.ring.completionMod ∧
    (s.channelsAdopted a).ring.eventMod = s.ring.eventMod ∧
    (s.channelsAdopted a).ring.completionWrites = s.ring.completionWrites := by
  unfold State.channelsAdopted
  exact foldl_invariant (fun t : State => t.pending = s.pending ∧ t.stations = s.stations ∧
      t.sched = s.sched ∧ t.bus = s.bus ∧ t.mon = s.mon ∧ t.req = s.req ∧ t.mem = s.mem ∧
      t.port = s.port ∧ t.pcie = s.pcie ∧ t.stn = s.stn ∧ t.ring.iface = s.ring.iface ∧
      t.ring.desc = s.ring.desc ∧ t.ring.requestHead = s.ring.requestHead ∧
      t.ring.completionTail = s.ring.completionTail ∧ t.ring.completionLap = s.ring.completionLap ∧
      t.ring.requestTail = s.ring.requestTail ∧ t.ring.completionHead = s.ring.completionHead ∧
      t.ring.eventHead = s.ring.eventHead ∧ t.ring.completionMod = s.ring.completionMod ∧
      t.ring.eventMod = s.ring.eventMod ∧ t.ring.completionWrites = s.ring.completionWrites) _
    (fun t n h => by split <;> (try split_ifs) <;> simpa using h) _ s (by simp)

/-- `channelsStart` changes nothing but: channels, evt, trip, ring. -/
@[simp] theorem State.channelsStart_keeps (s : State) :
    (s.channelsStart).pending = s.pending ∧
    (s.channelsStart).stations = s.stations ∧
    (s.channelsStart).sched = s.sched ∧
    (s.channelsStart).bus = s.bus ∧
    (s.channelsStart).mon = s.mon ∧
    (s.channelsStart).req = s.req ∧
    (s.channelsStart).mem = s.mem ∧
    (s.channelsStart).port = s.port ∧
    (s.channelsStart).pcie = s.pcie ∧
    (s.channelsStart).stn = s.stn ∧
    (s.channelsStart).ring.iface = s.ring.iface ∧
    (s.channelsStart).ring.desc = s.ring.desc ∧
    (s.channelsStart).ring.requestHead = s.ring.requestHead ∧
    (s.channelsStart).ring.completionTail = s.ring.completionTail ∧
    (s.channelsStart).ring.completionLap = s.ring.completionLap ∧
    (s.channelsStart).ring.requestTail = s.ring.requestTail ∧
    (s.channelsStart).ring.completionHead = s.ring.completionHead ∧
    (s.channelsStart).ring.eventHead = s.ring.eventHead ∧
    (s.channelsStart).ring.completionMod = s.ring.completionMod ∧
    (s.channelsStart).ring.eventMod = s.ring.eventMod ∧
    (s.channelsStart).ring.completionWrites = s.ring.completionWrites := by
  unfold State.channelsStart
  exact foldl_invariant (fun t : State => t.pending = s.pending ∧ t.stations = s.stations ∧
      t.sched = s.sched ∧ t.bus = s.bus ∧ t.mon = s.mon ∧ t.req = s.req ∧ t.mem = s.mem ∧
      t.port = s.port ∧ t.pcie = s.pcie ∧ t.stn = s.stn ∧ t.ring.iface = s.ring.iface ∧
      t.ring.desc = s.ring.desc ∧ t.ring.requestHead = s.ring.requestHead ∧
      t.ring.completionTail = s.ring.completionTail ∧ t.ring.completionLap = s.ring.completionLap ∧
      t.ring.requestTail = s.ring.requestTail ∧ t.ring.completionHead = s.ring.completionHead ∧
      t.ring.eventHead = s.ring.eventHead ∧ t.ring.completionMod = s.ring.completionMod ∧
      t.ring.eventMod = s.ring.eventMod ∧ t.ring.completionWrites = s.ring.completionWrites) _
    (fun t n h => by split_ifs <;> simpa using h) _ s (by simp)

/-- `channelsOfStation` changes nothing but: channels, evt, trip, ring. -/
@[simp] theorem State.channelsOfStation_keeps (s : State) (a : Nat) (st : StationState) :
    (s.channelsOfStation a st).pending = s.pending ∧
    (s.channelsOfStation a st).stations = s.stations ∧
    (s.channelsOfStation a st).sched = s.sched ∧
    (s.channelsOfStation a st).bus = s.bus ∧
    (s.channelsOfStation a st).mon = s.mon ∧
    (s.channelsOfStation a st).req = s.req ∧
    (s.channelsOfStation a st).mem = s.mem ∧
    (s.channelsOfStation a st).port = s.port ∧
    (s.channelsOfStation a st).pcie = s.pcie ∧
    (s.channelsOfStation a st).stn = s.stn ∧
    (s.channelsOfStation a st).ring.iface = s.ring.iface ∧
    (s.channelsOfStation a st).ring.desc = s.ring.desc ∧
    (s.channelsOfStation a st).ring.requestHead = s.ring.requestHead ∧
    (s.channelsOfStation a st).ring.completionTail = s.ring.completionTail ∧
    (s.channelsOfStation a st).ring.completionLap = s.ring.completionLap ∧
    (s.channelsOfStation a st).ring.requestTail = s.ring.requestTail ∧
    (s.channelsOfStation a st).ring.completionHead = s.ring.completionHead ∧
    (s.channelsOfStation a st).ring.eventHead = s.ring.eventHead ∧
    (s.channelsOfStation a st).ring.completionMod = s.ring.completionMod ∧
    (s.channelsOfStation a st).ring.eventMod = s.ring.eventMod ∧
    (s.channelsOfStation a st).ring.completionWrites = s.ring.completionWrites := by
  cases st <;> simp [State.channelsOfStation]

/-! ## The request engine -/

/-- `freeJob` changes nothing but: req. -/
@[simp] theorem State.freeJob_keeps (s : State) (o : Nat) :
    (s.freeJob o).pending = s.pending ∧
    (s.freeJob o).channels = s.channels ∧
    (s.freeJob o).stations = s.stations ∧
    (s.freeJob o).evt = s.evt ∧
    (s.freeJob o).trip = s.trip ∧
    (s.freeJob o).sched = s.sched ∧
    (s.freeJob o).bus = s.bus ∧
    (s.freeJob o).mon = s.mon ∧
    (s.freeJob o).ring = s.ring ∧
    (s.freeJob o).mem = s.mem ∧
    (s.freeJob o).port = s.port ∧
    (s.freeJob o).pcie = s.pcie ∧
    (s.freeJob o).chan = s.chan ∧
    (s.freeJob o).stn = s.stn := by
  simp [State.freeJob]

/-- `completeSyncs` changes nothing but: req, ring. -/
@[simp] theorem State.completeSyncs_keeps (s : State) (n : Nat) :
    (State.completeSyncs n s).pending = s.pending ∧
    (State.completeSyncs n s).channels = s.channels ∧
    (State.completeSyncs n s).stations = s.stations ∧
    (State.completeSyncs n s).evt = s.evt ∧
    (State.completeSyncs n s).trip = s.trip ∧
    (State.completeSyncs n s).sched = s.sched ∧
    (State.completeSyncs n s).bus = s.bus ∧
    (State.completeSyncs n s).mon = s.mon ∧
    (State.completeSyncs n s).mem = s.mem ∧
    (State.completeSyncs n s).port = s.port ∧
    (State.completeSyncs n s).pcie = s.pcie ∧
    (State.completeSyncs n s).chan = s.chan ∧
    (State.completeSyncs n s).stn = s.stn ∧
    (State.completeSyncs n s).ring.iface = s.ring.iface ∧
    (State.completeSyncs n s).ring.desc = s.ring.desc ∧
    (State.completeSyncs n s).ring.requestHead = s.ring.requestHead ∧
    (State.completeSyncs n s).ring.requestTail = s.ring.requestTail ∧
    (State.completeSyncs n s).ring.completionHead = s.ring.completionHead ∧
    (State.completeSyncs n s).ring.eventHead = s.ring.eventHead ∧
    (State.completeSyncs n s).ring.eventTail = s.ring.eventTail ∧
    (State.completeSyncs n s).ring.eventLap = s.ring.eventLap ∧
    (State.completeSyncs n s).ring.completionMod = s.ring.completionMod ∧
    (State.completeSyncs n s).ring.eventMod = s.ring.eventMod ∧
    (State.completeSyncs n s).ring.eventWrites = s.ring.eventWrites := by
  induction n generalizing s with
  | zero => simp [State.completeSyncs]
  | succ k ih =>
    unfold State.completeSyncs
    split
    · simp
    · simp only [ih]; simp [State.complete]; exact ⟨rfl, rfl⟩

/-- `endJob` changes nothing but: req, ring. -/
@[simp] theorem State.endJob_keeps (s : State) (o : Nat) (c : Completion) :
    (s.endJob o c).pending = s.pending ∧
    (s.endJob o c).channels = s.channels ∧
    (s.endJob o c).stations = s.stations ∧
    (s.endJob o c).evt = s.evt ∧
    (s.endJob o c).trip = s.trip ∧
    (s.endJob o c).sched = s.sched ∧
    (s.endJob o c).bus = s.bus ∧
    (s.endJob o c).mon = s.mon ∧
    (s.endJob o c).mem = s.mem ∧
    (s.endJob o c).port = s.port ∧
    (s.endJob o c).pcie = s.pcie ∧
    (s.endJob o c).chan = s.chan ∧
    (s.endJob o c).stn = s.stn ∧
    (s.endJob o c).ring.iface = s.ring.iface ∧
    (s.endJob o c).ring.desc = s.ring.desc ∧
    (s.endJob o c).ring.requestHead = s.ring.requestHead ∧
    (s.endJob o c).ring.requestTail = s.ring.requestTail ∧
    (s.endJob o c).ring.completionHead = s.ring.completionHead ∧
    (s.endJob o c).ring.eventHead = s.ring.eventHead ∧
    (s.endJob o c).ring.eventTail = s.ring.eventTail ∧
    (s.endJob o c).ring.eventLap = s.ring.eventLap ∧
    (s.endJob o c).ring.completionMod = s.ring.completionMod ∧
    (s.endJob o c).ring.eventMod = s.ring.eventMod ∧
    (s.endJob o c).ring.eventWrites = s.ring.eventWrites := by
  simp [State.endJob, State.complete]; exact ⟨rfl, rfl⟩

/-- `leaveDump` changes nothing but: req. -/
@[simp] theorem State.leaveDump_keeps (s : State) (o : Nat) (b : Bool) :
    (s.leaveDump o b).pending = s.pending ∧
    (s.leaveDump o b).channels = s.channels ∧
    (s.leaveDump o b).stations = s.stations ∧
    (s.leaveDump o b).evt = s.evt ∧
    (s.leaveDump o b).trip = s.trip ∧
    (s.leaveDump o b).sched = s.sched ∧
    (s.leaveDump o b).bus = s.bus ∧
    (s.leaveDump o b).mon = s.mon ∧
    (s.leaveDump o b).ring = s.ring ∧
    (s.leaveDump o b).mem = s.mem ∧
    (s.leaveDump o b).port = s.port ∧
    (s.leaveDump o b).pcie = s.pcie ∧
    (s.leaveDump o b).chan = s.chan ∧
    (s.leaveDump o b).stn = s.stn := by
  simp [State.leaveDump]; exact ⟨rfl, rfl⟩

/-- `endDump` changes nothing but: req, ring. -/
@[simp] theorem State.endDump_keeps (s : State) (j : Job) (d : DumpJob) (st : Status) :
    (s.endDump j d st).pending = s.pending ∧
    (s.endDump j d st).channels = s.channels ∧
    (s.endDump j d st).stations = s.stations ∧
    (s.endDump j d st).evt = s.evt ∧
    (s.endDump j d st).trip = s.trip ∧
    (s.endDump j d st).sched = s.sched ∧
    (s.endDump j d st).bus = s.bus ∧
    (s.endDump j d st).mon = s.mon ∧
    (s.endDump j d st).mem = s.mem ∧
    (s.endDump j d st).port = s.port ∧
    (s.endDump j d st).pcie = s.pcie ∧
    (s.endDump j d st).chan = s.chan ∧
    (s.endDump j d st).stn = s.stn ∧
    (s.endDump j d st).ring.iface = s.ring.iface ∧
    (s.endDump j d st).ring.desc = s.ring.desc ∧
    (s.endDump j d st).ring.requestHead = s.ring.requestHead ∧
    (s.endDump j d st).ring.requestTail = s.ring.requestTail ∧
    (s.endDump j d st).ring.completionHead = s.ring.completionHead ∧
    (s.endDump j d st).ring.eventHead = s.ring.eventHead ∧
    (s.endDump j d st).ring.eventTail = s.ring.eventTail ∧
    (s.endDump j d st).ring.eventLap = s.ring.eventLap ∧
    (s.endDump j d st).ring.completionMod = s.ring.completionMod ∧
    (s.endDump j d st).ring.eventMod = s.ring.eventMod ∧
    (s.endDump j d st).ring.eventWrites = s.ring.eventWrites := by
  simp [State.endDump]

/-- `abortWaitingDump` changes nothing but: req, ring. -/
@[simp] theorem State.abortWaitingDump_keeps (s : State) :
    (s.abortWaitingDump).pending = s.pending ∧
    (s.abortWaitingDump).channels = s.channels ∧
    (s.abortWaitingDump).stations = s.stations ∧
    (s.abortWaitingDump).evt = s.evt ∧
    (s.abortWaitingDump).trip = s.trip ∧
    (s.abortWaitingDump).sched = s.sched ∧
    (s.abortWaitingDump).bus = s.bus ∧
    (s.abortWaitingDump).mon = s.mon ∧
    (s.abortWaitingDump).mem = s.mem ∧
    (s.abortWaitingDump).port = s.port ∧
    (s.abortWaitingDump).pcie = s.pcie ∧
    (s.abortWaitingDump).chan = s.chan ∧
    (s.abortWaitingDump).stn = s.stn ∧
    (s.abortWaitingDump).ring.iface = s.ring.iface ∧
    (s.abortWaitingDump).ring.desc = s.ring.desc ∧
    (s.abortWaitingDump).ring.requestHead = s.ring.requestHead ∧
    (s.abortWaitingDump).ring.requestTail = s.ring.requestTail ∧
    (s.abortWaitingDump).ring.completionHead = s.ring.completionHead ∧
    (s.abortWaitingDump).ring.eventHead = s.ring.eventHead ∧
    (s.abortWaitingDump).ring.eventTail = s.ring.eventTail ∧
    (s.abortWaitingDump).ring.eventLap = s.ring.eventLap ∧
    (s.abortWaitingDump).ring.completionMod = s.ring.completionMod ∧
    (s.abortWaitingDump).ring.eventMod = s.ring.eventMod ∧
    (s.abortWaitingDump).ring.eventWrites = s.ring.eventWrites := by
  unfold State.abortWaitingDump; split <;> (try split) <;> simp

/-- `setDump` changes nothing but: req. -/
@[simp] theorem State.setDump_keeps (s : State) (o : Nat) (d : DumpJob) :
    (s.setDump o d).pending = s.pending ∧
    (s.setDump o d).channels = s.channels ∧
    (s.setDump o d).stations = s.stations ∧
    (s.setDump o d).evt = s.evt ∧
    (s.setDump o d).trip = s.trip ∧
    (s.setDump o d).sched = s.sched ∧
    (s.setDump o d).bus = s.bus ∧
    (s.setDump o d).mon = s.mon ∧
    (s.setDump o d).ring = s.ring ∧
    (s.setDump o d).mem = s.mem ∧
    (s.setDump o d).port = s.port ∧
    (s.setDump o d).pcie = s.pcie ∧
    (s.setDump o d).chan = s.chan ∧
    (s.setDump o d).stn = s.stn := by
  simp [State.setDump]

/-- `captureAtSweep` changes nothing but: req. -/
@[simp] theorem State.captureAtSweep_keeps (s : State) (b : Time) :
    (s.captureAtSweep b).pending = s.pending ∧
    (s.captureAtSweep b).channels = s.channels ∧
    (s.captureAtSweep b).stations = s.stations ∧
    (s.captureAtSweep b).evt = s.evt ∧
    (s.captureAtSweep b).trip = s.trip ∧
    (s.captureAtSweep b).sched = s.sched ∧
    (s.captureAtSweep b).bus = s.bus ∧
    (s.captureAtSweep b).mon = s.mon ∧
    (s.captureAtSweep b).ring = s.ring ∧
    (s.captureAtSweep b).mem = s.mem ∧
    (s.captureAtSweep b).port = s.port ∧
    (s.captureAtSweep b).pcie = s.pcie ∧
    (s.captureAtSweep b).chan = s.chan ∧
    (s.captureAtSweep b).stn = s.stn := by
  unfold State.captureAtSweep; split <;> (try split) <;> (try split_ifs) <;> simp <;> exact ⟨rfl, rfl⟩

/-- `refuse` changes nothing but: req, ring. -/
@[simp] theorem State.refuse_keeps (s : State) (r : Request) (k : RequestKind) (st : Status) :
    (s.refuse r k st).pending = s.pending ∧
    (s.refuse r k st).channels = s.channels ∧
    (s.refuse r k st).stations = s.stations ∧
    (s.refuse r k st).evt = s.evt ∧
    (s.refuse r k st).trip = s.trip ∧
    (s.refuse r k st).sched = s.sched ∧
    (s.refuse r k st).bus = s.bus ∧
    (s.refuse r k st).mon = s.mon ∧
    (s.refuse r k st).mem = s.mem ∧
    (s.refuse r k st).port = s.port ∧
    (s.refuse r k st).pcie = s.pcie ∧
    (s.refuse r k st).chan = s.chan ∧
    (s.refuse r k st).stn = s.stn ∧
    (s.refuse r k st).ring.iface = s.ring.iface ∧
    (s.refuse r k st).ring.desc = s.ring.desc ∧
    (s.refuse r k st).ring.requestHead = s.ring.requestHead ∧
    (s.refuse r k st).ring.requestTail = s.ring.requestTail ∧
    (s.refuse r k st).ring.completionHead = s.ring.completionHead ∧
    (s.refuse r k st).ring.eventHead = s.ring.eventHead ∧
    (s.refuse r k st).ring.eventTail = s.ring.eventTail ∧
    (s.refuse r k st).ring.eventLap = s.ring.eventLap ∧
    (s.refuse r k st).ring.completionMod = s.ring.completionMod ∧
    (s.refuse r k st).ring.eventMod = s.ring.eventMod ∧
    (s.refuse r k st).ring.eventWrites = s.ring.eventWrites := by
  simp [State.refuse, State.complete]; exact ⟨rfl, rfl⟩

/-- `place` changes nothing but: req. -/
@[simp] theorem State.place_keeps (s : State) (r : Request) (k : RequestKind) (w : JobWork) :
    (s.place r k w).pending = s.pending ∧
    (s.place r k w).channels = s.channels ∧
    (s.place r k w).stations = s.stations ∧
    (s.place r k w).evt = s.evt ∧
    (s.place r k w).trip = s.trip ∧
    (s.place r k w).sched = s.sched ∧
    (s.place r k w).bus = s.bus ∧
    (s.place r k w).mon = s.mon ∧
    (s.place r k w).ring = s.ring ∧
    (s.place r k w).mem = s.mem ∧
    (s.place r k w).port = s.port ∧
    (s.place r k w).pcie = s.pcie ∧
    (s.place r k w).chan = s.chan ∧
    (s.place r k w).stn = s.stn := by
  simp [State.place]

/-! ## Activities -/

/-- `orphan` changes nothing but: bus. -/
@[simp] theorem State.orphan_keeps (s : State) (a : Activity) :
    (s.orphan a).pending = s.pending ∧
    (s.orphan a).channels = s.channels ∧
    (s.orphan a).stations = s.stations ∧
    (s.orphan a).evt = s.evt ∧
    (s.orphan a).trip = s.trip ∧
    (s.orphan a).sched = s.sched ∧
    (s.orphan a).mon = s.mon ∧
    (s.orphan a).req = s.req ∧
    (s.orphan a).ring = s.ring ∧
    (s.orphan a).mem = s.mem ∧
    (s.orphan a).port = s.port ∧
    (s.orphan a).pcie = s.pcie ∧
    (s.orphan a).chan = s.chan ∧
    (s.orphan a).stn = s.stn := by
  unfold State.orphan; split <;> (try split_ifs) <;> simp

/-- `dropHold` changes nothing but: stations. -/
@[simp] theorem State.dropHold_keeps (s : State) (act : Activity) (a : Nat) :
    (s.dropHold act a).pending = s.pending ∧
    (s.dropHold act a).channels = s.channels ∧
    (s.dropHold act a).evt = s.evt ∧
    (s.dropHold act a).trip = s.trip ∧
    (s.dropHold act a).sched = s.sched ∧
    (s.dropHold act a).bus = s.bus ∧
    (s.dropHold act a).mon = s.mon ∧
    (s.dropHold act a).req = s.req ∧
    (s.dropHold act a).ring = s.ring ∧
    (s.dropHold act a).mem = s.mem ∧
    (s.dropHold act a).port = s.port ∧
    (s.dropHold act a).pcie = s.pcie ∧
    (s.dropHold act a).chan = s.chan := by
  unfold State.dropHold; split_ifs <;> simp

/-- `dropWalk` changes nothing but: stations. -/
@[simp] theorem State.dropWalk_keeps (s : State) (act : Activity) (w : ProbeWalk) :
    (s.dropWalk act w).pending = s.pending ∧
    (s.dropWalk act w).channels = s.channels ∧
    (s.dropWalk act w).evt = s.evt ∧
    (s.dropWalk act w).trip = s.trip ∧
    (s.dropWalk act w).sched = s.sched ∧
    (s.dropWalk act w).bus = s.bus ∧
    (s.dropWalk act w).mon = s.mon ∧
    (s.dropWalk act w).req = s.req ∧
    (s.dropWalk act w).ring = s.ring ∧
    (s.dropWalk act w).mem = s.mem ∧
    (s.dropWalk act w).port = s.port ∧
    (s.dropWalk act w).pcie = s.pcie ∧
    (s.dropWalk act w).chan = s.chan := by
  unfold State.dropWalk; split <;> simp

/-- `discardSweep` changes nothing but: stations, sched, bus. -/
@[simp] theorem State.discardSweep_keeps (s : State) :
    (s.discardSweep).pending = s.pending ∧
    (s.discardSweep).channels = s.channels ∧
    (s.discardSweep).evt = s.evt ∧
    (s.discardSweep).trip = s.trip ∧
    (s.discardSweep).mon = s.mon ∧
    (s.discardSweep).req = s.req ∧
    (s.discardSweep).ring = s.ring ∧
    (s.discardSweep).mem = s.mem ∧
    (s.discardSweep).port = s.port ∧
    (s.discardSweep).pcie = s.pcie ∧
    (s.discardSweep).chan = s.chan := by
  unfold State.discardSweep; simp only; (repeat split) <;> simp

/-- `discardPass` changes nothing but: sched, bus. -/
@[simp] theorem State.discardPass_keeps (s : State) :
    (s.discardPass).pending = s.pending ∧
    (s.discardPass).channels = s.channels ∧
    (s.discardPass).stations = s.stations ∧
    (s.discardPass).evt = s.evt ∧
    (s.discardPass).trip = s.trip ∧
    (s.discardPass).mon = s.mon ∧
    (s.discardPass).req = s.req ∧
    (s.discardPass).ring = s.ring ∧
    (s.discardPass).mem = s.mem ∧
    (s.discardPass).port = s.port ∧
    (s.discardPass).pcie = s.pcie ∧
    (s.discardPass).chan = s.chan ∧
    (s.discardPass).stn = s.stn := by
  simp [State.discardPass]

/-- `stopSweeping` changes nothing but: stations, sched, bus. -/
@[simp] theorem State.stopSweeping_keeps (s : State) :
    (s.stopSweeping).pending = s.pending ∧
    (s.stopSweeping).channels = s.channels ∧
    (s.stopSweeping).evt = s.evt ∧
    (s.stopSweeping).trip = s.trip ∧
    (s.stopSweeping).mon = s.mon ∧
    (s.stopSweeping).req = s.req ∧
    (s.stopSweeping).ring = s.ring ∧
    (s.stopSweeping).mem = s.mem ∧
    (s.stopSweeping).port = s.port ∧
    (s.stopSweeping).pcie = s.pcie ∧
    (s.stopSweeping).chan = s.chan := by
  simp [State.stopSweeping]

/-- `passOver` changes nothing but: sched. -/
@[simp] theorem State.passOver_keeps (s : State) (a : Nat) :
    (s.passOver a).pending = s.pending ∧
    (s.passOver a).channels = s.channels ∧
    (s.passOver a).stations = s.stations ∧
    (s.passOver a).evt = s.evt ∧
    (s.passOver a).trip = s.trip ∧
    (s.passOver a).bus = s.bus ∧
    (s.passOver a).mon = s.mon ∧
    (s.passOver a).req = s.req ∧
    (s.passOver a).ring = s.ring ∧
    (s.passOver a).mem = s.mem ∧
    (s.passOver a).port = s.port ∧
    (s.passOver a).pcie = s.pcie ∧
    (s.passOver a).chan = s.chan ∧
    (s.passOver a).stn = s.stn := by
  simp [State.passOver]

/-- `dequeue` changes nothing but: sched. -/
@[simp] theorem State.dequeue_keeps (s : State) (o : Nat) :
    (s.dequeue o).pending = s.pending ∧
    (s.dequeue o).channels = s.channels ∧
    (s.dequeue o).stations = s.stations ∧
    (s.dequeue o).evt = s.evt ∧
    (s.dequeue o).trip = s.trip ∧
    (s.dequeue o).bus = s.bus ∧
    (s.dequeue o).mon = s.mon ∧
    (s.dequeue o).req = s.req ∧
    (s.dequeue o).ring = s.ring ∧
    (s.dequeue o).mem = s.mem ∧
    (s.dequeue o).port = s.port ∧
    (s.dequeue o).pcie = s.pcie ∧
    (s.dequeue o).chan = s.chan ∧
    (s.dequeue o).stn = s.stn := by
  simp [State.dequeue]

/-- `cutLinkJob` changes nothing but: stations, bus. -/
@[simp] theorem State.cutLinkJob_keeps (s : State) (j : LinkJob) :
    (s.cutLinkJob j).pending = s.pending ∧
    (s.cutLinkJob j).channels = s.channels ∧
    (s.cutLinkJob j).evt = s.evt ∧
    (s.cutLinkJob j).trip = s.trip ∧
    (s.cutLinkJob j).sched = s.sched ∧
    (s.cutLinkJob j).mon = s.mon ∧
    (s.cutLinkJob j).req = s.req ∧
    (s.cutLinkJob j).ring = s.ring ∧
    (s.cutLinkJob j).mem = s.mem ∧
    (s.cutLinkJob j).port = s.port ∧
    (s.cutLinkJob j).pcie = s.pcie ∧
    (s.cutLinkJob j).chan = s.chan := by
  unfold State.cutLinkJob; cases j.work <;> dsimp only <;> split_ifs <;> simp [State.dropWalk_keeps]

/-- `endLinkJob` changes nothing but: stations, bus, sched, req, ring. -/
@[simp] theorem State.endLinkJob_keeps (s : State) (j : LinkJob) (st : Status) :
    (s.endLinkJob j st).pending = s.pending ∧
    (s.endLinkJob j st).channels = s.channels ∧
    (s.endLinkJob j st).evt = s.evt ∧
    (s.endLinkJob j st).trip = s.trip ∧
    (s.endLinkJob j st).mon = s.mon ∧
    (s.endLinkJob j st).mem = s.mem ∧
    (s.endLinkJob j st).port = s.port ∧
    (s.endLinkJob j st).pcie = s.pcie ∧
    (s.endLinkJob j st).chan = s.chan ∧
    (s.endLinkJob j st).ring.iface = s.ring.iface ∧
    (s.endLinkJob j st).ring.desc = s.ring.desc ∧
    (s.endLinkJob j st).ring.requestHead = s.ring.requestHead ∧
    (s.endLinkJob j st).ring.requestTail = s.ring.requestTail ∧
    (s.endLinkJob j st).ring.completionHead = s.ring.completionHead ∧
    (s.endLinkJob j st).ring.eventHead = s.ring.eventHead ∧
    (s.endLinkJob j st).ring.eventTail = s.ring.eventTail ∧
    (s.endLinkJob j st).ring.eventLap = s.ring.eventLap ∧
    (s.endLinkJob j st).ring.completionMod = s.ring.completionMod ∧
    (s.endLinkJob j st).ring.eventMod = s.ring.eventMod ∧
    (s.endLinkJob j st).ring.eventWrites = s.ring.eventWrites := by
  unfold State.endLinkJob; simp only; split_ifs <;> (try split) <;> simp

/-- `endLinkJobs` changes nothing but: stations, bus, sched, req, ring. -/
@[simp] theorem State.endLinkJobs_keeps (s : State) (js : List LinkJob) (st : Status) :
    (s.endLinkJobs js st).pending = s.pending ∧
    (s.endLinkJobs js st).channels = s.channels ∧
    (s.endLinkJobs js st).evt = s.evt ∧
    (s.endLinkJobs js st).trip = s.trip ∧
    (s.endLinkJobs js st).mon = s.mon ∧
    (s.endLinkJobs js st).mem = s.mem ∧
    (s.endLinkJobs js st).port = s.port ∧
    (s.endLinkJobs js st).pcie = s.pcie ∧
    (s.endLinkJobs js st).chan = s.chan ∧
    (s.endLinkJobs js st).ring.iface = s.ring.iface ∧
    (s.endLinkJobs js st).ring.desc = s.ring.desc ∧
    (s.endLinkJobs js st).ring.requestHead = s.ring.requestHead ∧
    (s.endLinkJobs js st).ring.requestTail = s.ring.requestTail ∧
    (s.endLinkJobs js st).ring.completionHead = s.ring.completionHead ∧
    (s.endLinkJobs js st).ring.eventHead = s.ring.eventHead ∧
    (s.endLinkJobs js st).ring.eventTail = s.ring.eventTail ∧
    (s.endLinkJobs js st).ring.eventLap = s.ring.eventLap ∧
    (s.endLinkJobs js st).ring.completionMod = s.ring.completionMod ∧
    (s.endLinkJobs js st).ring.eventMod = s.ring.eventMod ∧
    (s.endLinkJobs js st).ring.eventWrites = s.ring.eventWrites := by
  unfold State.endLinkJobs
  exact foldl_invariant (fun t : State => t.pending = s.pending ∧ t.channels = s.channels ∧
      t.evt = s.evt ∧ t.trip = s.trip ∧ t.mon = s.mon ∧ t.mem = s.mem ∧ t.port = s.port ∧
      t.pcie = s.pcie ∧ t.chan = s.chan ∧ t.ring.iface = s.ring.iface ∧ t.ring.desc = s.ring.desc ∧
      t.ring.requestHead = s.ring.requestHead ∧ t.ring.requestTail = s.ring.requestTail ∧
      t.ring.completionHead = s.ring.completionHead ∧ t.ring.eventHead = s.ring.eventHead ∧
      t.ring.eventTail = s.ring.eventTail ∧ t.ring.eventLap = s.ring.eventLap ∧
      t.ring.completionMod = s.ring.completionMod ∧ t.ring.eventMod = s.ring.eventMod ∧
      t.ring.eventWrites = s.ring.eventWrites) _
    (fun t j h => by simpa using h) _ s (by simp)

/-- `stationLost` changes nothing but: stations, bus, sched, req, ring. -/
@[simp] theorem State.stationLost_keeps (s : State) (a : Nat) :
    (s.stationLost a).pending = s.pending ∧
    (s.stationLost a).channels = s.channels ∧
    (s.stationLost a).evt = s.evt ∧
    (s.stationLost a).trip = s.trip ∧
    (s.stationLost a).mon = s.mon ∧
    (s.stationLost a).mem = s.mem ∧
    (s.stationLost a).port = s.port ∧
    (s.stationLost a).pcie = s.pcie ∧
    (s.stationLost a).chan = s.chan ∧
    (s.stationLost a).ring.iface = s.ring.iface ∧
    (s.stationLost a).ring.desc = s.ring.desc ∧
    (s.stationLost a).ring.requestHead = s.ring.requestHead ∧
    (s.stationLost a).ring.requestTail = s.ring.requestTail ∧
    (s.stationLost a).ring.completionHead = s.ring.completionHead ∧
    (s.stationLost a).ring.eventHead = s.ring.eventHead ∧
    (s.stationLost a).ring.eventTail = s.ring.eventTail ∧
    (s.stationLost a).ring.eventLap = s.ring.eventLap ∧
    (s.stationLost a).ring.completionMod = s.ring.completionMod ∧
    (s.stationLost a).ring.eventMod = s.ring.eventMod ∧
    (s.stationLost a).ring.eventWrites = s.ring.eventWrites := by
  simp [State.stationLost]

/-- `leaveIfAbandoned` changes nothing but: stations, bus, sched, req. -/
@[simp] theorem State.leaveIfAbandoned_keeps (s : State) :
    (s.leaveIfAbandoned).pending = s.pending ∧
    (s.leaveIfAbandoned).channels = s.channels ∧
    (s.leaveIfAbandoned).evt = s.evt ∧
    (s.leaveIfAbandoned).trip = s.trip ∧
    (s.leaveIfAbandoned).mon = s.mon ∧
    (s.leaveIfAbandoned).ring = s.ring ∧
    (s.leaveIfAbandoned).mem = s.mem ∧
    (s.leaveIfAbandoned).port = s.port ∧
    (s.leaveIfAbandoned).pcie = s.pcie ∧
    (s.leaveIfAbandoned).chan = s.chan := by
  unfold State.leaveIfAbandoned; split <;> (try split_ifs) <;> simp

/-! ## The station roster -/

/-- `rederive` changes nothing but: stations. -/
@[simp] theorem State.rederive_keeps (s : State) (a : Nat) :
    (s.rederive a).pending = s.pending ∧
    (s.rederive a).channels = s.channels ∧
    (s.rederive a).evt = s.evt ∧
    (s.rederive a).trip = s.trip ∧
    (s.rederive a).sched = s.sched ∧
    (s.rederive a).bus = s.bus ∧
    (s.rederive a).mon = s.mon ∧
    (s.rederive a).req = s.req ∧
    (s.rederive a).ring = s.ring ∧
    (s.rederive a).mem = s.mem ∧
    (s.rederive a).port = s.port ∧
    (s.rederive a).pcie = s.pcie ∧
    (s.rederive a).chan = s.chan := by
  unfold State.rederive; simp only; split_ifs <;> simp

/-- `rederiveAll` changes nothing but: stations. -/
@[simp] theorem State.rederiveAll_keeps (s : State) :
    (s.rederiveAll).pending = s.pending ∧
    (s.rederiveAll).channels = s.channels ∧
    (s.rederiveAll).evt = s.evt ∧
    (s.rederiveAll).trip = s.trip ∧
    (s.rederiveAll).sched = s.sched ∧
    (s.rederiveAll).bus = s.bus ∧
    (s.rederiveAll).mon = s.mon ∧
    (s.rederiveAll).req = s.req ∧
    (s.rederiveAll).ring = s.ring ∧
    (s.rederiveAll).mem = s.mem ∧
    (s.rederiveAll).port = s.port ∧
    (s.rederiveAll).pcie = s.pcie ∧
    (s.rederiveAll).chan = s.chan := by
  unfold State.rederiveAll
  exact foldl_invariant (fun t : State => t.pending = s.pending ∧ t.channels = s.channels ∧
      t.evt = s.evt ∧ t.trip = s.trip ∧ t.sched = s.sched ∧ t.bus = s.bus ∧ t.mon = s.mon ∧
      t.req = s.req ∧ t.ring = s.ring ∧ t.mem = s.mem ∧ t.port = s.port ∧ t.pcie = s.pcie ∧
      t.chan = s.chan) _ (fun t n h => by simpa using h) _ s (by simp)

/-- `reprobeNow` changes nothing but: stations. -/
@[simp] theorem State.reprobeNow_keeps (s : State) :
    (s.reprobeNow).pending = s.pending ∧
    (s.reprobeNow).channels = s.channels ∧
    (s.reprobeNow).evt = s.evt ∧
    (s.reprobeNow).trip = s.trip ∧
    (s.reprobeNow).sched = s.sched ∧
    (s.reprobeNow).bus = s.bus ∧
    (s.reprobeNow).mon = s.mon ∧
    (s.reprobeNow).req = s.req ∧
    (s.reprobeNow).ring = s.ring ∧
    (s.reprobeNow).mem = s.mem ∧
    (s.reprobeNow).port = s.port ∧
    (s.reprobeNow).pcie = s.pcie ∧
    (s.reprobeNow).chan = s.chan := by
  unfold State.reprobeNow
  exact foldl_invariant (fun t : State => t.pending = s.pending ∧ t.channels = s.channels ∧
      t.evt = s.evt ∧ t.trip = s.trip ∧ t.sched = s.sched ∧ t.bus = s.bus ∧ t.mon = s.mon ∧
      t.req = s.req ∧ t.ring = s.ring ∧ t.mem = s.mem ∧ t.port = s.port ∧ t.pcie = s.pcie ∧ t.chan = s.chan) _
    (fun t n h => by split_ifs <;> simpa using h) _ s (by simp)

/-- `note` changes nothing but: evt, ring. -/
@[simp] theorem State.note_keeps (s : State) (a : Nat) (r : Reason) :
    (s.note a r).pending = s.pending ∧
    (s.note a r).channels = s.channels ∧
    (s.note a r).stations = s.stations ∧
    (s.note a r).trip = s.trip ∧
    (s.note a r).sched = s.sched ∧
    (s.note a r).bus = s.bus ∧
    (s.note a r).mon = s.mon ∧
    (s.note a r).req = s.req ∧
    (s.note a r).mem = s.mem ∧
    (s.note a r).port = s.port ∧
    (s.note a r).pcie = s.pcie ∧
    (s.note a r).chan = s.chan ∧
    (s.note a r).stn = s.stn ∧
    (s.note a r).ring.iface = s.ring.iface ∧
    (s.note a r).ring.desc = s.ring.desc ∧
    (s.note a r).ring.requestHead = s.ring.requestHead ∧
    (s.note a r).ring.completionTail = s.ring.completionTail ∧
    (s.note a r).ring.completionLap = s.ring.completionLap ∧
    (s.note a r).ring.requestTail = s.ring.requestTail ∧
    (s.note a r).ring.completionHead = s.ring.completionHead ∧
    (s.note a r).ring.eventHead = s.ring.eventHead ∧
    (s.note a r).ring.completionMod = s.ring.completionMod ∧
    (s.note a r).ring.eventMod = s.ring.eventMod ∧
    (s.note a r).ring.completionWrites = s.ring.completionWrites := by
  simp [State.note]

/-- `endGuardPoll` changes nothing but: mon, bus. -/
@[simp] theorem State.endGuardPoll_keeps (s : State) :
    (s.endGuardPoll).pending = s.pending ∧
    (s.endGuardPoll).channels = s.channels ∧
    (s.endGuardPoll).stations = s.stations ∧
    (s.endGuardPoll).evt = s.evt ∧
    (s.endGuardPoll).trip = s.trip ∧
    (s.endGuardPoll).sched = s.sched ∧
    (s.endGuardPoll).req = s.req ∧
    (s.endGuardPoll).ring = s.ring ∧
    (s.endGuardPoll).mem = s.mem ∧
    (s.endGuardPoll).port = s.port ∧
    (s.endGuardPoll).pcie = s.pcie ∧
    (s.endGuardPoll).chan = s.chan ∧
    (s.endGuardPoll).stn = s.stn := by
  simp [State.endGuardPoll]

/-- `guardStationLost` changes nothing but: evt, trip, ring, mon, bus. -/
@[simp] theorem State.guardStationLost_keeps (s : State) :
    (s.guardStationLost).pending = s.pending ∧
    (s.guardStationLost).channels = s.channels ∧
    (s.guardStationLost).stations = s.stations ∧
    (s.guardStationLost).sched = s.sched ∧
    (s.guardStationLost).req = s.req ∧
    (s.guardStationLost).mem = s.mem ∧
    (s.guardStationLost).port = s.port ∧
    (s.guardStationLost).pcie = s.pcie ∧
    (s.guardStationLost).chan = s.chan ∧
    (s.guardStationLost).stn = s.stn ∧
    (s.guardStationLost).ring.iface = s.ring.iface ∧
    (s.guardStationLost).ring.desc = s.ring.desc ∧
    (s.guardStationLost).ring.requestHead = s.ring.requestHead ∧
    (s.guardStationLost).ring.completionTail = s.ring.completionTail ∧
    (s.guardStationLost).ring.completionLap = s.ring.completionLap ∧
    (s.guardStationLost).ring.requestTail = s.ring.requestTail ∧
    (s.guardStationLost).ring.completionHead = s.ring.completionHead ∧
    (s.guardStationLost).ring.eventHead = s.ring.eventHead ∧
    (s.guardStationLost).ring.completionMod = s.ring.completionMod ∧
    (s.guardStationLost).ring.eventMod = s.ring.eventMod ∧
    (s.guardStationLost).ring.completionWrites = s.ring.completionWrites := by
  simp [State.guardStationLost]

/-- `moveStation` changes nothing but: stations, channels, mon, bus, evt, trip, ring. -/
@[simp] theorem State.moveStation_keeps (s : State) (a : Nat) (r : Station) :
    (s.moveStation a r).pending = s.pending ∧
    (s.moveStation a r).sched = s.sched ∧
    (s.moveStation a r).req = s.req ∧
    (s.moveStation a r).mem = s.mem ∧
    (s.moveStation a r).port = s.port ∧
    (s.moveStation a r).pcie = s.pcie ∧
    (s.moveStation a r).ring.iface = s.ring.iface ∧
    (s.moveStation a r).ring.desc = s.ring.desc ∧
    (s.moveStation a r).ring.requestHead = s.ring.requestHead ∧
    (s.moveStation a r).ring.completionTail = s.ring.completionTail ∧
    (s.moveStation a r).ring.completionLap = s.ring.completionLap ∧
    (s.moveStation a r).ring.requestTail = s.ring.requestTail ∧
    (s.moveStation a r).ring.completionHead = s.ring.completionHead ∧
    (s.moveStation a r).ring.eventHead = s.ring.eventHead ∧
    (s.moveStation a r).ring.completionMod = s.ring.completionMod ∧
    (s.moveStation a r).ring.eventMod = s.ring.eventMod ∧
    (s.moveStation a r).ring.completionWrites = s.ring.completionWrites := by
  unfold State.moveStation; simp only; split_ifs <;> simp

/-- `takeOutOfUse` changes nothing but: stations, channels, mon, bus, evt, trip, ring. -/
@[simp] theorem State.takeOutOfUse_keeps (s : State) :
    (s.takeOutOfUse).pending = s.pending ∧
    (s.takeOutOfUse).sched = s.sched ∧
    (s.takeOutOfUse).req = s.req ∧
    (s.takeOutOfUse).mem = s.mem ∧
    (s.takeOutOfUse).port = s.port ∧
    (s.takeOutOfUse).pcie = s.pcie ∧
    (s.takeOutOfUse).ring.iface = s.ring.iface ∧
    (s.takeOutOfUse).ring.desc = s.ring.desc ∧
    (s.takeOutOfUse).ring.requestHead = s.ring.requestHead ∧
    (s.takeOutOfUse).ring.completionTail = s.ring.completionTail ∧
    (s.takeOutOfUse).ring.completionLap = s.ring.completionLap ∧
    (s.takeOutOfUse).ring.requestTail = s.ring.requestTail ∧
    (s.takeOutOfUse).ring.completionHead = s.ring.completionHead ∧
    (s.takeOutOfUse).ring.eventHead = s.ring.eventHead ∧
    (s.takeOutOfUse).ring.completionMod = s.ring.completionMod ∧
    (s.takeOutOfUse).ring.eventMod = s.ring.eventMod ∧
    (s.takeOutOfUse).ring.completionWrites = s.ring.completionWrites := by
  unfold State.takeOutOfUse
  exact foldl_invariant (fun t : State => t.pending = s.pending ∧ t.sched = s.sched ∧ t.req = s.req ∧
      t.mem = s.mem ∧ t.port = s.port ∧ t.pcie = s.pcie ∧ t.ring.iface = s.ring.iface ∧
      t.ring.desc = s.ring.desc ∧ t.ring.requestHead = s.ring.requestHead ∧
      t.ring.completionTail = s.ring.completionTail ∧ t.ring.completionLap = s.ring.completionLap ∧
      t.ring.requestTail = s.ring.requestTail ∧ t.ring.completionHead = s.ring.completionHead ∧
      t.ring.eventHead = s.ring.eventHead ∧ t.ring.completionMod = s.ring.completionMod ∧
      t.ring.eventMod = s.ring.eventMod ∧ t.ring.completionWrites = s.ring.completionWrites) _
    (fun t n h => by split_ifs <;> simpa using h) _ s (by simp)

/-! ## The monitor controller -/

/-- `makeFaulted` changes nothing but: evt, trip, ring, mon. -/
@[simp] theorem State.makeFaulted_keeps (s : State) (r : LinkReason) :
    (s.makeFaulted r).pending = s.pending ∧
    (s.makeFaulted r).channels = s.channels ∧
    (s.makeFaulted r).stations = s.stations ∧
    (s.makeFaulted r).sched = s.sched ∧
    (s.makeFaulted r).bus = s.bus ∧
    (s.makeFaulted r).req = s.req ∧
    (s.makeFaulted r).mem = s.mem ∧
    (s.makeFaulted r).port = s.port ∧
    (s.makeFaulted r).pcie = s.pcie ∧
    (s.makeFaulted r).chan = s.chan ∧
    (s.makeFaulted r).stn = s.stn ∧
    (s.makeFaulted r).ring.iface = s.ring.iface ∧
    (s.makeFaulted r).ring.desc = s.ring.desc ∧
    (s.makeFaulted r).ring.requestHead = s.ring.requestHead ∧
    (s.makeFaulted r).ring.completionTail = s.ring.completionTail ∧
    (s.makeFaulted r).ring.completionLap = s.ring.completionLap ∧
    (s.makeFaulted r).ring.requestTail = s.ring.requestTail ∧
    (s.makeFaulted r).ring.completionHead = s.ring.completionHead ∧
    (s.makeFaulted r).ring.eventHead = s.ring.eventHead ∧
    (s.makeFaulted r).ring.completionMod = s.ring.completionMod ∧
    (s.makeFaulted r).ring.eventMod = s.ring.eventMod ∧
    (s.makeFaulted r).ring.completionWrites = s.ring.completionWrites := by
  unfold State.makeFaulted; split_ifs <;> simp

/-- `restoreLink` changes nothing but: evt, trip, ring, mon. -/
@[simp] theorem State.restoreLink_keeps (s : State) :
    (s.restoreLink).pending = s.pending ∧
    (s.restoreLink).channels = s.channels ∧
    (s.restoreLink).stations = s.stations ∧
    (s.restoreLink).sched = s.sched ∧
    (s.restoreLink).bus = s.bus ∧
    (s.restoreLink).req = s.req ∧
    (s.restoreLink).mem = s.mem ∧
    (s.restoreLink).port = s.port ∧
    (s.restoreLink).pcie = s.pcie ∧
    (s.restoreLink).chan = s.chan ∧
    (s.restoreLink).stn = s.stn ∧
    (s.restoreLink).ring.iface = s.ring.iface ∧
    (s.restoreLink).ring.desc = s.ring.desc ∧
    (s.restoreLink).ring.requestHead = s.ring.requestHead ∧
    (s.restoreLink).ring.completionTail = s.ring.completionTail ∧
    (s.restoreLink).ring.completionLap = s.ring.completionLap ∧
    (s.restoreLink).ring.requestTail = s.ring.requestTail ∧
    (s.restoreLink).ring.completionHead = s.ring.completionHead ∧
    (s.restoreLink).ring.eventHead = s.ring.eventHead ∧
    (s.restoreLink).ring.completionMod = s.ring.completionMod ∧
    (s.restoreLink).ring.eventMod = s.ring.eventMod ∧
    (s.restoreLink).ring.completionWrites = s.ring.completionWrites := by
  simp [State.restoreLink]

/-- `setAttnPart` changes nothing but: mon, evt, ring. -/
@[simp] theorem State.setAttnPart_keeps (s : State) (b : Bool) :
    (s.setAttnPart b).pending = s.pending ∧
    (s.setAttnPart b).channels = s.channels ∧
    (s.setAttnPart b).stations = s.stations ∧
    (s.setAttnPart b).trip = s.trip ∧
    (s.setAttnPart b).sched = s.sched ∧
    (s.setAttnPart b).bus = s.bus ∧
    (s.setAttnPart b).req = s.req ∧
    (s.setAttnPart b).mem = s.mem ∧
    (s.setAttnPart b).port = s.port ∧
    (s.setAttnPart b).pcie = s.pcie ∧
    (s.setAttnPart b).chan = s.chan ∧
    (s.setAttnPart b).stn = s.stn ∧
    (s.setAttnPart b).ring.iface = s.ring.iface ∧
    (s.setAttnPart b).ring.desc = s.ring.desc ∧
    (s.setAttnPart b).ring.requestHead = s.ring.requestHead ∧
    (s.setAttnPart b).ring.completionTail = s.ring.completionTail ∧
    (s.setAttnPart b).ring.completionLap = s.ring.completionLap ∧
    (s.setAttnPart b).ring.requestTail = s.ring.requestTail ∧
    (s.setAttnPart b).ring.completionHead = s.ring.completionHead ∧
    (s.setAttnPart b).ring.eventHead = s.ring.eventHead ∧
    (s.setAttnPart b).ring.completionMod = s.ring.completionMod ∧
    (s.setAttnPart b).ring.eventMod = s.ring.eventMod ∧
    (s.setAttnPart b).ring.completionWrites = s.ring.completionWrites := by
  simp [State.setAttnPart]

/-- `setRecovery` changes nothing but: mon. -/
@[simp] theorem State.setRecovery_keeps (s : State) (st : RecoveryStage) (r : LinkReason) :
    (s.setRecovery st r).pending = s.pending ∧
    (s.setRecovery st r).channels = s.channels ∧
    (s.setRecovery st r).stations = s.stations ∧
    (s.setRecovery st r).evt = s.evt ∧
    (s.setRecovery st r).trip = s.trip ∧
    (s.setRecovery st r).sched = s.sched ∧
    (s.setRecovery st r).bus = s.bus ∧
    (s.setRecovery st r).req = s.req ∧
    (s.setRecovery st r).ring = s.ring ∧
    (s.setRecovery st r).mem = s.mem ∧
    (s.setRecovery st r).port = s.port ∧
    (s.setRecovery st r).pcie = s.pcie ∧
    (s.setRecovery st r).chan = s.chan ∧
    (s.setRecovery st r).stn = s.stn := by
  simp [State.setRecovery]

/-- `beginRound` changes nothing but: mon. -/
@[simp] theorem State.beginRound_keeps (s : State) (r : LinkReason) :
    (s.beginRound r).pending = s.pending ∧
    (s.beginRound r).channels = s.channels ∧
    (s.beginRound r).stations = s.stations ∧
    (s.beginRound r).evt = s.evt ∧
    (s.beginRound r).trip = s.trip ∧
    (s.beginRound r).sched = s.sched ∧
    (s.beginRound r).bus = s.bus ∧
    (s.beginRound r).req = s.req ∧
    (s.beginRound r).ring = s.ring ∧
    (s.beginRound r).mem = s.mem ∧
    (s.beginRound r).port = s.port ∧
    (s.beginRound r).pcie = s.pcie ∧
    (s.beginRound r).chan = s.chan ∧
    (s.beginRound r).stn = s.stn := by
  simp [State.beginRound]

/-- `discardPrimitive` changes nothing but: bus. -/
@[simp] theorem State.discardPrimitive_keeps (s : State) :
    (s.discardPrimitive).pending = s.pending ∧
    (s.discardPrimitive).channels = s.channels ∧
    (s.discardPrimitive).stations = s.stations ∧
    (s.discardPrimitive).evt = s.evt ∧
    (s.discardPrimitive).trip = s.trip ∧
    (s.discardPrimitive).sched = s.sched ∧
    (s.discardPrimitive).mon = s.mon ∧
    (s.discardPrimitive).req = s.req ∧
    (s.discardPrimitive).ring = s.ring ∧
    (s.discardPrimitive).mem = s.mem ∧
    (s.discardPrimitive).port = s.port ∧
    (s.discardPrimitive).pcie = s.pcie ∧
    (s.discardPrimitive).chan = s.chan ∧
    (s.discardPrimitive).stn = s.stn := by
  simp [State.discardPrimitive]

/-- `endEnumeration` changes nothing but: stations, bus, mon. -/
@[simp] theorem State.endEnumeration_keeps (s : State) :
    (s.endEnumeration).pending = s.pending ∧
    (s.endEnumeration).channels = s.channels ∧
    (s.endEnumeration).evt = s.evt ∧
    (s.endEnumeration).trip = s.trip ∧
    (s.endEnumeration).sched = s.sched ∧
    (s.endEnumeration).req = s.req ∧
    (s.endEnumeration).ring = s.ring ∧
    (s.endEnumeration).mem = s.mem ∧
    (s.endEnumeration).port = s.port ∧
    (s.endEnumeration).pcie = s.pcie ∧
    (s.endEnumeration).chan = s.chan := by
  unfold State.endEnumeration; split <;> simp

/-- `dropRecoveryProbe` changes nothing but: stations, bus. -/
@[simp] theorem State.dropRecoveryProbe_keeps (s : State) :
    (s.dropRecoveryProbe).pending = s.pending ∧
    (s.dropRecoveryProbe).channels = s.channels ∧
    (s.dropRecoveryProbe).evt = s.evt ∧
    (s.dropRecoveryProbe).trip = s.trip ∧
    (s.dropRecoveryProbe).sched = s.sched ∧
    (s.dropRecoveryProbe).mon = s.mon ∧
    (s.dropRecoveryProbe).req = s.req ∧
    (s.dropRecoveryProbe).ring = s.ring ∧
    (s.dropRecoveryProbe).mem = s.mem ∧
    (s.dropRecoveryProbe).port = s.port ∧
    (s.dropRecoveryProbe).pcie = s.pcie ∧
    (s.dropRecoveryProbe).chan = s.chan := by
  unfold State.dropRecoveryProbe; (repeat split) <;> simp

/-- `endRecovery` changes nothing but: stations, bus, mon. -/
@[simp] theorem State.endRecovery_keeps (s : State) :
    (s.endRecovery).pending = s.pending ∧
    (s.endRecovery).channels = s.channels ∧
    (s.endRecovery).evt = s.evt ∧
    (s.endRecovery).trip = s.trip ∧
    (s.endRecovery).sched = s.sched ∧
    (s.endRecovery).req = s.req ∧
    (s.endRecovery).ring = s.ring ∧
    (s.endRecovery).mem = s.mem ∧
    (s.endRecovery).port = s.port ∧
    (s.endRecovery).pcie = s.pcie ∧
    (s.endRecovery).chan = s.chan := by
  simp [State.endRecovery]

/-- `resetRunningJob` changes nothing but: stations, bus, sched, req, ring. -/
@[simp] theorem State.resetRunningJob_keeps (s : State) :
    (s.resetRunningJob).pending = s.pending ∧
    (s.resetRunningJob).channels = s.channels ∧
    (s.resetRunningJob).evt = s.evt ∧
    (s.resetRunningJob).trip = s.trip ∧
    (s.resetRunningJob).mon = s.mon ∧
    (s.resetRunningJob).mem = s.mem ∧
    (s.resetRunningJob).port = s.port ∧
    (s.resetRunningJob).pcie = s.pcie ∧
    (s.resetRunningJob).chan = s.chan ∧
    (s.resetRunningJob).ring.iface = s.ring.iface ∧
    (s.resetRunningJob).ring.desc = s.ring.desc ∧
    (s.resetRunningJob).ring.requestHead = s.ring.requestHead ∧
    (s.resetRunningJob).ring.requestTail = s.ring.requestTail ∧
    (s.resetRunningJob).ring.completionHead = s.ring.completionHead ∧
    (s.resetRunningJob).ring.eventHead = s.ring.eventHead ∧
    (s.resetRunningJob).ring.eventTail = s.ring.eventTail ∧
    (s.resetRunningJob).ring.eventLap = s.ring.eventLap ∧
    (s.resetRunningJob).ring.completionMod = s.ring.completionMod ∧
    (s.resetRunningJob).ring.eventMod = s.ring.eventMod ∧
    (s.resetRunningJob).ring.eventWrites = s.ring.eventWrites := by
  unfold State.resetRunningJob; split <;> simp

/-- `enterRecovering` changes nothing but: stations, channels, evt, trip, sched, bus, mon, req, ring. -/
@[simp] theorem State.enterRecovering_keeps (s : State) (r : LinkReason) :
    (s.enterRecovering r).pending = s.pending ∧
    (s.enterRecovering r).mem = s.mem ∧
    (s.enterRecovering r).port = s.port ∧
    (s.enterRecovering r).pcie = s.pcie ∧
    (s.enterRecovering r).ring.iface = s.ring.iface ∧
    (s.enterRecovering r).ring.desc = s.ring.desc ∧
    (s.enterRecovering r).ring.requestHead = s.ring.requestHead ∧
    (s.enterRecovering r).ring.requestTail = s.ring.requestTail ∧
    (s.enterRecovering r).ring.completionHead = s.ring.completionHead ∧
    (s.enterRecovering r).ring.eventHead = s.ring.eventHead ∧
    (s.enterRecovering r).ring.completionMod = s.ring.completionMod ∧
    (s.enterRecovering r).ring.eventMod = s.ring.eventMod := by
  unfold State.enterRecovering; cases r <;> simp

/-- `endGuardWork` changes nothing but: stations, bus, mon. -/
@[simp] theorem State.endGuardWork_keeps (s : State) :
    (s.endGuardWork).pending = s.pending ∧
    (s.endGuardWork).channels = s.channels ∧
    (s.endGuardWork).evt = s.evt ∧
    (s.endGuardWork).trip = s.trip ∧
    (s.endGuardWork).sched = s.sched ∧
    (s.endGuardWork).req = s.req ∧
    (s.endGuardWork).ring = s.ring ∧
    (s.endGuardWork).mem = s.mem ∧
    (s.endGuardWork).port = s.port ∧
    (s.endGuardWork).pcie = s.pcie ∧
    (s.endGuardWork).chan = s.chan := by
  unfold State.endGuardWork; simp only; cases s.mon.guardReprobe <;> (repeat split) <;> simp <;> (repeat split) <;> simp

/-- `beginGuardLineRecovery` changes nothing but: stations, channels, mon, bus, evt, trip, ring. -/
@[simp] theorem State.beginGuardLineRecovery_keeps (s : State) :
    (s.beginGuardLineRecovery).pending = s.pending ∧
    (s.beginGuardLineRecovery).sched = s.sched ∧
    (s.beginGuardLineRecovery).req = s.req ∧
    (s.beginGuardLineRecovery).mem = s.mem ∧
    (s.beginGuardLineRecovery).port = s.port ∧
    (s.beginGuardLineRecovery).pcie = s.pcie ∧
    (s.beginGuardLineRecovery).ring.iface = s.ring.iface ∧
    (s.beginGuardLineRecovery).ring.desc = s.ring.desc ∧
    (s.beginGuardLineRecovery).ring.requestHead = s.ring.requestHead ∧
    (s.beginGuardLineRecovery).ring.completionTail = s.ring.completionTail ∧
    (s.beginGuardLineRecovery).ring.completionLap = s.ring.completionLap ∧
    (s.beginGuardLineRecovery).ring.requestTail = s.ring.requestTail ∧
    (s.beginGuardLineRecovery).ring.completionHead = s.ring.completionHead ∧
    (s.beginGuardLineRecovery).ring.eventHead = s.ring.eventHead ∧
    (s.beginGuardLineRecovery).ring.completionMod = s.ring.completionMod ∧
    (s.beginGuardLineRecovery).ring.eventMod = s.ring.eventMod ∧
    (s.beginGuardLineRecovery).ring.completionWrites = s.ring.completionWrites := by
  simp [State.beginGuardLineRecovery]

/-- `stuckInRecovery` changes nothing but: stations, bus, mon. -/
@[simp] theorem State.stuckInRecovery_keeps (s : State) :
    (s.stuckInRecovery).pending = s.pending ∧
    (s.stuckInRecovery).channels = s.channels ∧
    (s.stuckInRecovery).evt = s.evt ∧
    (s.stuckInRecovery).trip = s.trip ∧
    (s.stuckInRecovery).sched = s.sched ∧
    (s.stuckInRecovery).req = s.req ∧
    (s.stuckInRecovery).ring = s.ring ∧
    (s.stuckInRecovery).mem = s.mem ∧
    (s.stuckInRecovery).port = s.port ∧
    (s.stuckInRecovery).pcie = s.pcie ∧
    (s.stuckInRecovery).chan = s.chan := by
  unfold State.stuckInRecovery; (repeat split) <;> simp

/-- `lineStuck` changes nothing but: stations, channels, evt, trip, sched, bus, mon, req, ring. -/
@[simp] theorem State.lineStuck_keeps (s : State) :
    (s.lineStuck).pending = s.pending ∧
    (s.lineStuck).mem = s.mem ∧
    (s.lineStuck).port = s.port ∧
    (s.lineStuck).pcie = s.pcie ∧
    (s.lineStuck).ring.iface = s.ring.iface ∧
    (s.lineStuck).ring.desc = s.ring.desc ∧
    (s.lineStuck).ring.requestHead = s.ring.requestHead ∧
    (s.lineStuck).ring.requestTail = s.ring.requestTail ∧
    (s.lineStuck).ring.completionHead = s.ring.completionHead ∧
    (s.lineStuck).ring.eventHead = s.ring.eventHead ∧
    (s.lineStuck).ring.completionMod = s.ring.completionMod ∧
    (s.lineStuck).ring.eventMod = s.ring.eventMod := by
  unfold State.lineStuck; (repeat split) <;> simp

/-- `collectiveSilence` changes nothing but: stations, channels, evt, trip, sched, bus, mon, req, ring. -/
@[simp] theorem State.collectiveSilence_keeps (s : State) :
    (s.collectiveSilence).pending = s.pending ∧
    (s.collectiveSilence).mem = s.mem ∧
    (s.collectiveSilence).port = s.port ∧
    (s.collectiveSilence).pcie = s.pcie ∧
    (s.collectiveSilence).ring.iface = s.ring.iface ∧
    (s.collectiveSilence).ring.desc = s.ring.desc ∧
    (s.collectiveSilence).ring.requestHead = s.ring.requestHead ∧
    (s.collectiveSilence).ring.requestTail = s.ring.requestTail ∧
    (s.collectiveSilence).ring.completionHead = s.ring.completionHead ∧
    (s.collectiveSilence).ring.eventHead = s.ring.eventHead ∧
    (s.collectiveSilence).ring.completionMod = s.ring.completionMod ∧
    (s.collectiveSilence).ring.eventMod = s.ring.eventMod := by
  unfold State.collectiveSilence; split <;> simp

/-- `reportStuck` changes nothing but: stations, channels, evt, trip, sched, bus, mon, req, ring. -/
@[simp] theorem State.reportStuck_keeps (s : State) :
    (s.reportStuck).pending = s.pending ∧
    (s.reportStuck).mem = s.mem ∧
    (s.reportStuck).port = s.port ∧
    (s.reportStuck).pcie = s.pcie ∧
    (s.reportStuck).ring.iface = s.ring.iface ∧
    (s.reportStuck).ring.desc = s.ring.desc ∧
    (s.reportStuck).ring.requestHead = s.ring.requestHead ∧
    (s.reportStuck).ring.requestTail = s.ring.requestTail ∧
    (s.reportStuck).ring.completionHead = s.ring.completionHead ∧
    (s.reportStuck).ring.eventHead = s.ring.eventHead ∧
    (s.reportStuck).ring.completionMod = s.ring.completionMod ∧
    (s.reportStuck).ring.eventMod = s.ring.eventMod := by
  unfold State.reportStuck; split_ifs <;> simp

/-- `startTimer` changes nothing but: sched. -/
@[simp] theorem State.startTimer_keeps (s : State) :
    (s.startTimer).pending = s.pending ∧
    (s.startTimer).channels = s.channels ∧
    (s.startTimer).stations = s.stations ∧
    (s.startTimer).evt = s.evt ∧
    (s.startTimer).trip = s.trip ∧
    (s.startTimer).bus = s.bus ∧
    (s.startTimer).mon = s.mon ∧
    (s.startTimer).req = s.req ∧
    (s.startTimer).ring = s.ring ∧
    (s.startTimer).mem = s.mem ∧
    (s.startTimer).port = s.port ∧
    (s.startTimer).pcie = s.pcie ∧
    (s.startTimer).chan = s.chan ∧
    (s.startTimer).stn = s.stn := by
  simp [State.startTimer]

/-- `finishEnumeration` changes nothing but: evt, trip, ring, mon. -/
@[simp] theorem State.finishEnumeration_keeps (s : State) :
    (s.finishEnumeration).pending = s.pending ∧
    (s.finishEnumeration).channels = s.channels ∧
    (s.finishEnumeration).stations = s.stations ∧
    (s.finishEnumeration).sched = s.sched ∧
    (s.finishEnumeration).bus = s.bus ∧
    (s.finishEnumeration).req = s.req ∧
    (s.finishEnumeration).mem = s.mem ∧
    (s.finishEnumeration).port = s.port ∧
    (s.finishEnumeration).pcie = s.pcie ∧
    (s.finishEnumeration).chan = s.chan ∧
    (s.finishEnumeration).stn = s.stn ∧
    (s.finishEnumeration).ring.iface = s.ring.iface ∧
    (s.finishEnumeration).ring.desc = s.ring.desc ∧
    (s.finishEnumeration).ring.requestHead = s.ring.requestHead ∧
    (s.finishEnumeration).ring.completionTail = s.ring.completionTail ∧
    (s.finishEnumeration).ring.completionLap = s.ring.completionLap ∧
    (s.finishEnumeration).ring.requestTail = s.ring.requestTail ∧
    (s.finishEnumeration).ring.completionHead = s.ring.completionHead ∧
    (s.finishEnumeration).ring.eventHead = s.ring.eventHead ∧
    (s.finishEnumeration).ring.completionMod = s.ring.completionMod ∧
    (s.finishEnumeration).ring.eventMod = s.ring.eventMod ∧
    (s.finishEnumeration).ring.completionWrites = s.ring.completionWrites := by
  unfold State.finishEnumeration; simp only; split_ifs <;> simp

/-- `pollAtOnce` changes nothing but: mon. -/
@[simp] theorem State.pollAtOnce_keeps (s : State) :
    (s.pollAtOnce).pending = s.pending ∧
    (s.pollAtOnce).channels = s.channels ∧
    (s.pollAtOnce).stations = s.stations ∧
    (s.pollAtOnce).evt = s.evt ∧
    (s.pollAtOnce).trip = s.trip ∧
    (s.pollAtOnce).sched = s.sched ∧
    (s.pollAtOnce).bus = s.bus ∧
    (s.pollAtOnce).req = s.req ∧
    (s.pollAtOnce).ring = s.ring ∧
    (s.pollAtOnce).mem = s.mem ∧
    (s.pollAtOnce).port = s.port ∧
    (s.pollAtOnce).pcie = s.pcie ∧
    (s.pollAtOnce).chan = s.chan ∧
    (s.pollAtOnce).stn = s.stn := by
  unfold State.pollAtOnce; split_ifs <;> simp

/-- `finishRecovery` changes nothing but: evt, trip, ring, mon, sched. -/
@[simp] theorem State.finishRecovery_keeps (s : State) :
    (s.finishRecovery).pending = s.pending ∧
    (s.finishRecovery).channels = s.channels ∧
    (s.finishRecovery).stations = s.stations ∧
    (s.finishRecovery).bus = s.bus ∧
    (s.finishRecovery).req = s.req ∧
    (s.finishRecovery).mem = s.mem ∧
    (s.finishRecovery).port = s.port ∧
    (s.finishRecovery).pcie = s.pcie ∧
    (s.finishRecovery).chan = s.chan ∧
    (s.finishRecovery).stn = s.stn ∧
    (s.finishRecovery).ring.iface = s.ring.iface ∧
    (s.finishRecovery).ring.desc = s.ring.desc ∧
    (s.finishRecovery).ring.requestHead = s.ring.requestHead ∧
    (s.finishRecovery).ring.completionTail = s.ring.completionTail ∧
    (s.finishRecovery).ring.completionLap = s.ring.completionLap ∧
    (s.finishRecovery).ring.requestTail = s.ring.requestTail ∧
    (s.finishRecovery).ring.completionHead = s.ring.completionHead ∧
    (s.finishRecovery).ring.eventHead = s.ring.eventHead ∧
    (s.finishRecovery).ring.completionMod = s.ring.completionMod ∧
    (s.finishRecovery).ring.eventMod = s.ring.eventMod ∧
    (s.finishRecovery).ring.completionWrites = s.ring.completionWrites := by
  unfold State.finishRecovery; simp only; split_ifs <;> simp

/-- `releaseReport` changes nothing but: mon. -/
@[simp] theorem State.releaseReport_keeps (s : State) (b : Bool) :
    (s.releaseReport b).pending = s.pending ∧
    (s.releaseReport b).channels = s.channels ∧
    (s.releaseReport b).stations = s.stations ∧
    (s.releaseReport b).evt = s.evt ∧
    (s.releaseReport b).trip = s.trip ∧
    (s.releaseReport b).sched = s.sched ∧
    (s.releaseReport b).bus = s.bus ∧
    (s.releaseReport b).req = s.req ∧
    (s.releaseReport b).ring = s.ring ∧
    (s.releaseReport b).mem = s.mem ∧
    (s.releaseReport b).port = s.port ∧
    (s.releaseReport b).pcie = s.pcie ∧
    (s.releaseReport b).chan = s.chan ∧
    (s.releaseReport b).stn = s.stn := by
  unfold State.releaseReport; split <;> (try split_ifs) <;> simp

/-- `broadcastNotSent` changes nothing but: stations, channels, mon, bus, evt, trip, ring. -/
@[simp] theorem State.broadcastNotSent_keeps (s : State) :
    (s.broadcastNotSent).pending = s.pending ∧
    (s.broadcastNotSent).sched = s.sched ∧
    (s.broadcastNotSent).req = s.req ∧
    (s.broadcastNotSent).mem = s.mem ∧
    (s.broadcastNotSent).port = s.port ∧
    (s.broadcastNotSent).pcie = s.pcie ∧
    (s.broadcastNotSent).ring.iface = s.ring.iface ∧
    (s.broadcastNotSent).ring.desc = s.ring.desc ∧
    (s.broadcastNotSent).ring.requestHead = s.ring.requestHead ∧
    (s.broadcastNotSent).ring.completionTail = s.ring.completionTail ∧
    (s.broadcastNotSent).ring.completionLap = s.ring.completionLap ∧
    (s.broadcastNotSent).ring.requestTail = s.ring.requestTail ∧
    (s.broadcastNotSent).ring.completionHead = s.ring.completionHead ∧
    (s.broadcastNotSent).ring.eventHead = s.ring.eventHead ∧
    (s.broadcastNotSent).ring.completionMod = s.ring.completionMod ∧
    (s.broadcastNotSent).ring.eventMod = s.ring.eventMod ∧
    (s.broadcastNotSent).ring.completionWrites = s.ring.completionWrites := by
  unfold State.broadcastNotSent
  split
  · split_ifs <;> simp
  · split <;> simp

/-- `broadcastSent` changes nothing but: mon. -/
@[simp] theorem State.broadcastSent_keeps (s : State) :
    (s.broadcastSent).pending = s.pending ∧
    (s.broadcastSent).channels = s.channels ∧
    (s.broadcastSent).stations = s.stations ∧
    (s.broadcastSent).evt = s.evt ∧
    (s.broadcastSent).trip = s.trip ∧
    (s.broadcastSent).sched = s.sched ∧
    (s.broadcastSent).bus = s.bus ∧
    (s.broadcastSent).req = s.req ∧
    (s.broadcastSent).ring = s.ring ∧
    (s.broadcastSent).mem = s.mem ∧
    (s.broadcastSent).port = s.port ∧
    (s.broadcastSent).pcie = s.pcie ∧
    (s.broadcastSent).chan = s.chan ∧
    (s.broadcastSent).stn = s.stn := by
  unfold State.broadcastSent
  split
  · split_ifs <;> simp
  · split <;> simp

end Sys2Proof.Machine
end

