-- ==== Sys2Proof/Laws/Events.lean ====
section
/-! SUPPORT. The event unit as the statements speak of it: what a notice and a drain leave unchanged
as one equation, and that both depend on the backlog and the event ring alone. -/

namespace Sys2Proof.Machine

/-! ## Frames as equations -/

/-- A state that differs from another in the event unit and the event ring alone. -/
theorem State.eq_of_eventsOnly {s t : State} (h1 : t.pending = s.pending)
    (h2 : t.channels = s.channels) (h3 : t.stations = s.stations) (h4 : t.trip = s.trip)
    (h5 : t.sched = s.sched) (h6 : t.bus = s.bus) (h7 : t.mon = s.mon) (h8 : t.req = s.req)
    (h9 : t.mem = s.mem) (h10 : t.port = s.port) (h11 : t.pcie = s.pcie)
    (hr : t.ring = { s.ring with
      eventWrites := t.ring.eventWrites, eventTail := t.ring.eventTail
      eventLap := t.ring.eventLap }) :
    t = { s with evt := t.evt, ring := { s.ring with
      eventWrites := t.ring.eventWrites, eventTail := t.ring.eventTail
      eventLap := t.ring.eventLap } } := by
  rw [← hr, ← h1, ← h2, ← h3, ← h4, ← h5, ← h6, ← h7, ← h8, ← h9, ← h10, ← h11]

/-- A ring engine that differs from another in its posted events alone. -/
theorem RingEngine.eq_of_posted {r q : RingEngine} (h1 : q.iface = r.iface) (h2 : q.desc = r.desc)
    (h3 : q.requestHead = r.requestHead) (h4 : q.completionTail = r.completionTail)
    (h5 : q.completionLap = r.completionLap) (h6 : q.requestTail = r.requestTail)
    (h7 : q.completionHead = r.completionHead) (h8 : q.eventHead = r.eventHead)
    (h9 : q.completionMod = r.completionMod) (h10 : q.eventMod = r.eventMod)
    (h11 : q.completionWrites = r.completionWrites) :
    q = { r with
      eventWrites := q.eventWrites, eventTail := q.eventTail, eventLap := q.eventLap } := by
  cases q; cases r; simp_all

/-- A notice changes the event unit and the posted events alone. -/
theorem State.notify_eq (s : State) (n : Notice) :
    s.notify n = { s with evt := (s.notify n).evt, ring := { s.ring with
      eventWrites := (s.notify n).ring.eventWrites, eventTail := (s.notify n).ring.eventTail
      eventLap := (s.notify n).ring.eventLap } } :=
  State.eq_of_eventsOnly (by simp) (by simp) (by simp) (by simp) (by simp) (by simp) (by simp)
    (by simp) (by simp) (by simp) (by simp)
    (RingEngine.eq_of_posted (by simp) (by simp) (by simp) (by simp) (by simp) (by simp) (by simp)
      (by simp) (by simp) (by simp) (by simp))

/-! ## Same events -/

theorem State.SameEvents.refl (s : State) : State.SameEvents s s := ⟨rfl, rfl, rfl, rfl⟩

theorem State.SameEvents.symm {s t : State} (h : State.SameEvents s t) : State.SameEvents t s :=
  ⟨h.unit.symm, h.writes.symm, h.tail.symm, h.lap.symm⟩

theorem State.SameEvents.trans {s t u : State} (h : State.SameEvents s t)
    (k : State.SameEvents t u) : State.SameEvents s u :=
  ⟨k.unit.trans h.unit, k.writes.trans h.writes, k.tail.trans h.tail, k.lap.trans h.lap⟩

/-- Two states that the event unit and the event ring cannot tell apart. -/
structure State.EventTwins (s t : State) : Prop where
  same : State.SameEvents s t
  iface : t.ring.iface = s.ring.iface
  desc : t.ring.desc = s.ring.desc
  head : t.ring.eventHead = s.ring.eventHead

theorem State.EventTwins.canPost {s t : State} (h : State.EventTwins s t) : t.canPost = s.canPost := by
  simp only [State.canPost, RingEngine.eventsUnread, RingEngine.eventRingSize, h.iface, h.desc,
    h.head, h.same.tail]
  rfl

theorem State.EventTwins.post {s t : State} (h : State.EventTwins s t) (e : Entry) :
    State.EventTwins (s.post e) (t.post e) := by
  obtain ⟨⟨h1, h2, h3, h4⟩, h5, h6, h7⟩ := h
  have hs : t.ring.eventRingSize = s.ring.eventRingSize := by
    simp only [RingEngine.eventRingSize, h6]
  refine ⟨⟨h1, ?_, ?_, ?_⟩, h5, h6, h7⟩ <;> simp only [State.post, hs, h2, h3, h4]

theorem State.EventTwins.setBacklog {s t : State} (h : State.EventTwins s t) (b : List Entry) :
    State.EventTwins (s.setBacklog b) (t.setBacklog b) := by
  obtain ⟨⟨h1, h2, h3, h4⟩, h5, h6, h7⟩ := h
  exact ⟨⟨by simp only [State.setBacklog, h1], h2, h3, h4⟩, h5, h6, h7⟩

theorem State.EventTwins.drainList (b : List Entry) {s t : State} (h : State.EventTwins s t) :
    State.EventTwins (s.drainList b) (t.drainList b) := by
  induction b generalizing s t with
  | nil => exact h.setBacklog []
  | cons e es ih =>
    simp only [State.drainList, h.canPost]
    split
    · exact ih (h.post e)
    · exact h.setBacklog (e :: es)

/-- The drain depends on the backlog and the event ring alone. -/
theorem State.EventTwins.drain {s t : State} (h : State.EventTwins s t) :
    State.EventTwins s.drain t.drain := by
  unfold State.drain
  rw [h.same.unit]
  exact h.drainList _

/-- What a notice does depends on the backlog and the event ring alone. -/
theorem State.EventTwins.notify {s t : State} (h : State.EventTwins s t) (n : Notice) :
    State.EventTwins (s.notify n) (t.notify n) := by
  have hb : t.evt.backlog = s.evt.backlog := by rw [h.same.unit]
  simp only [State.notify, hb, h.canPost]
  split
  · exact h.post _
  · split
    · refine State.EventTwins.drain ?_
      obtain ⟨⟨h1, h2, h3, h4⟩, h5, h6, h7⟩ := h
      exact ⟨⟨by simp only [h1], h2, h3, h4⟩, h5, h6, h7⟩
    · exact (h.setBacklog _).drain

/-- A run of notices depends on the backlog and the event ring alone. -/
theorem State.EventTwins.notifyAll (ns : List Notice) {s t : State} (h : State.EventTwins s t) :
    State.EventTwins (ns.foldl State.notify s) (ns.foldl State.notify t) := by
  induction ns generalizing s t with
  | nil => exact h
  | cons n ns ih => exact ih (h.notify n)

end Sys2Proof.Machine
end

