-- ==== Sys2Proof/Laws/StationDevice.lean ====
section
/-! SUPPORT. What the frame of a station does (R125): pulses and idle clock change the frame alone, and
the release sequence always frees DB_DAT. What the end of a pass leaves in the registers (R123). -/

namespace Sys2Proof.Machine

/-- A pulse changes nothing but the frame in progress. -/
theorem StationDevice.pulse_frame (d : StationDevice) (startMark : Bool) :
    d.pulse startMark = { d with frame := (d.pulse startMark).frame } := by
  unfold StationDevice.pulse StationDevice.leaveFrame
  cases h : d.frame with
  | none => cases d; simp_all
  | some f => dsimp only; split_ifs <;> rfl

/-- Idle clock changes nothing but the frame in progress, which is gone after 1 ms (R125). -/
theorem StationDevice.clockIdle_frame (d : StationDevice) (microseconds : Nat) :
    d.clockIdle microseconds
      = { d with frame := if 1000 ≤ microseconds then none else d.frame } := by
  unfold StationDevice.clockIdle StationDevice.leaveFrame
  split_ifs <;> rfl

/-- After the release sequence no station holds DB_DAT part way through a frame (R125, R127). -/
theorem StationDevice.releaseSequence_frees (d : StationDevice) :
    d.releaseSequence.frame = none ∧ d.releaseSequence.holdsDat = false := by
  simp [StationDevice.releaseSequence, StationDevice.clockIdle, StationDevice.leaveFrame,
    StationDevice.holdsDat]

/-- The end of a pass of a function that is not converting changes nothing (R122, R123). -/
theorem StationDevice.passEnds_idle (d : StationDevice) (fn : Nat) (result : Nat → Count × Quality)
    (h : d.running.getLsbD fn = false) : d.passEnds fn result = d := by
  simp [StationDevice.passEnds, h]

/-- The end of a pass in progress replaces every point of its function and no other (R123). -/
theorem StationDevice.point_passEnds (d : StationDevice) (fn : Nat) (result : Nat → Count × Quality)
    (h : d.running.getLsbD fn = true) (f p : Nat) :
    (d.passEnds fn result).point f p =
      if f = fn then (if p < d.pts then result p else (0, .convertErr)) else d.point f p := by
  have hfn : fn < 4 := by
    by_contra hc
    simp [BitVec.getLsbD_of_ge d.running fn (by omega)] at h
  simp only [StationDevice.passEnds, h, if_true, StationDevice.point]
  by_cases hf : f = fn
  · subst hf
    by_cases hp : p < d.pts <;> simp [hfn, hp]
  · rw [if_neg hf, Vector.getElem?_setIfInBounds_ne (by omega)]

end Sys2Proof.Machine
end

