-- ==== Sys2Proof/Tests/Slice0.lean ====
section
/-! SUPPORT. The smoke test of WellFormed, tests of commands against the manual's worked examples,
and for each statement concrete states that meet its hypotheses. -/

open Sys2Proof Sys2Proof.Machine

namespace Sys2Proof.Tests

set_option Elab.async false

/-! ## WellFormed refuses ill-formed operands -/

theorem test_wellFormed_refuses :
    (Instr.controlReset 1).wellFormed = false
    ∧ (Instr.enableSet 0).wellFormed = false ∧ (Instr.enableSet 3).wellFormed = false
    ∧ (Instr.enableClear 1).wellFormed = false ∧ (Instr.enableClear 2).wellFormed = false
    ∧ (Instr.interruptEnablesWrite 2).wellFormed = false
    ∧ (Instr.registerWriteIgnored 0x08 4 0).wellFormed = false
    ∧ (Instr.registerWriteIgnored 0x20 1 0).wellFormed = false
    ∧ (Instr.responseReceived (List.replicate 29 true)).wellFormed = false := by decide

theorem test_wellFormed_accepts :
    (Instr.controlReset 2).wellFormed = true ∧ (Instr.enableSet 0x1F01).wellFormed = true
    ∧ (Instr.enableClear 0).wellFormed = true ∧ (Instr.interruptEnablesWrite 1).wellFormed = true
    ∧ (Instr.registerWriteIgnored 0x1C 4 0).wellFormed = true
    ∧ (Instr.registerWriteIgnored 0x00 2 0).wellFormed = true
    ∧ (Instr.responseReceived (List.replicate 28 true)).wellFormed = true := by decide

/-! ## Small states -/

/-- The state that a command answers. -/
def after (c : Instr) (s : State) : State :=
  match exec c s with
  | .next t => t
  | .fault _ => s
  | .refused _ => s

/-- The command answers a next state. -/
def answersNext (c : Instr) (s : State) : Bool :=
  match exec c s with
  | .next _ => true
  | .fault _ => false
  | .refused _ => false

theorem runs_of {c : Instr} {s : State} (h : answersNext c s = true) : Runs c s (after c s) := by
  unfold answersNext at h
  unfold Runs after
  split at h
  · rename_i heq; rw [heq]
  · cases h
  · cases h

/-- A window over the lowest 4 GiB that permits reads and writes. -/
def lowWindow : Window :=
  { base := 0, length := 0x100000000, permission := { read := true, write := true } }

/-- Rings of 16 slots, with the moderation of the example of 2.12. -/
def rings : RingDescription :=
  { requestBase := 0x1000, completionBase := 0x2000, eventBase := 0x3000
    requestExp := 4, completionExp := 4, eventExp := 4
    completionCount := 4, completionDelay := 10, eventCount := 4, eventDelay := 10 }

/-- An interface that is LIVE, with one request in its ring. -/
def live : State :=
  { State.reset with
    ring := { RingEngine.reset with iface := .live, requestTail := 1, desc := some rings }
    mem := { windows := #v[lowWindow, Window.reset, Window.reset, Window.reset], inFlight := none }
    port := { RegisterPort.reset with enable := true }
    pcie := { busMastering := true, messages := true, linkUp := true, messagesSent := 0 } }

/-- The record with these bytes at its start, and zeros behind them. -/
def record (bs : List Nat) : BitVec 256 :=
  bs.foldr (fun b acc => (acc <<< 8) ||| BitVec.ofNat 256 b) 0

/-- The state with this request staged. -/
def asks (bs : List Nat) (s : State) : State :=
  { s with req := { s.req with staged := some { record := record bs, slot := 0 } } }

/-- The state with the monitor in a state other than GUARD, at a monitor time. -/
def inState (m : MonitorState) (time : Time) (s : State) : State :=
  { s with mon := { s.mon with
      state := m, time := time, guardActive := false, guardStage := none
      rosterComplete := m == .monitoring
      enumeration := if m = .enumerating then some { last := 0, probe := none } else none
      recovery := if m = .recovering then
        some { stage := .releaseRound, reason := .lineStuck } else none
      lineFaulted := m == .recovering } }

/-- The limits of the example of 1.11. -/
def limits : Limits :=
  { criticalLow := none, low := some 160, high := some 1200, criticalHigh := some 1440
    hysteresis := 32 }

/-- A SIGNED, ROUTINE channel bound to a point of a station. -/
def bound (station fn point : Nat) (member : Bool) (c : Condition) : Channel :=
  { generation := 1
    binding := some { loc := { station := station, fn := fn, point := point }, format := .signed
                      cls := .routine, member := member, limits := limits }
    condition := c
    reason := if c = .unreachable then some .silent else none
    last := some { value := 1180, quality := .valid, time := 0 }
    pendingSince := some 0
    peaks := some { min := 1180, max := 1180 } }

/-- An ADOPTED station with two functions of four points, its plan enabling function 0. -/
def adopted : Station :=
  { Station.reset with
    state := .adopted
    classRev := some { cls := 2, rev := 3 }, shape := some { fns := 2, pts := 4 }
    fingerprint := some { classRev := { cls := 2, rev := 3 }, shape := { fns := 2, pts := 4 } }
    plan := { fns := 1, attn := 0 }, planApplied := true }

/-- A SILENT station, due a reprobe at time 0. -/
def silent : Station :=
  { adopted with state := .silent, reason := some .missed, reprobeAt := some 0, planApplied := false }

/-- A READ of STATUS on the bus, in its first attempt. -/
def statusRead (a : Nat) (act : Activity) : Transaction :=
  { address := a, register := 2, data := none, activity := act, purpose := .statusRead
    orphan := false, second := false, phase := .awaiting }

/-- The state with a transaction on the bus. -/
def onBus (x : Transaction) (s : State) : State := { s with bus := { s.bus with txn := some x } }

/-- The state with an access in flight. -/
def inFlight (k : AccessKind) (sendable : Bool) (s : State) : State :=
  let a : Access :=
    { kind := k, address := 0x2000, length := 16, bytes := [], sendable := sendable }
  { s with mem := { s.mem with inFlight := some a } }

/-- The state with a latch, its cause CRITICAL by channel 20 at 5000, as in the example of 3.11. -/
def latched (l : Latch) (s : State) : State :=
  { s with trip := { s.trip with
      latch := l, cause := some { kind := .critical, source := 20, time := 5000, count := 2 }
      rearmTime := some 6000 } }

/-- The state with the line part of the link FAULTED since a time. -/
def faulted (since : Time) (s : State) : State :=
  { s with mon := { s.mon with lineFaulted := true }, trip := { s.trip with faultStart := some since } }

/-- A job in a slot, and the link job that goes with it, if it is one. -/
def withJob (order : Nat) (kind : RequestKind) (work : JobWork) (link : Option LinkWork) (s : State) :
    State :=
  { s with
    req := { s.req with
      jobs := s.req.jobs ++
        [{ order := order, kind := kind, tag := BitVec.ofNat 16 order, abandoned := false, work := work }]
      taken := s.req.taken + 1, takeOrder := order }
    sched := { s.sched with jobs := s.sched.jobs ++
      (link.map fun w => { order := order, abandoned := false, work := w }).toList } }

/-- A FRESH_READ of channel 31 taken at time 0. -/
def fresh (stage : FreshStage) (acked : Bool) : LinkWork :=
  .fresh { channel := 31, generation := 1, taken := 0, stage := stage, acked := acked
           flagSeen := false, fault := false, quality := none }

/-- A LATEST dump of two channel records. -/
def dump (written : Nat) : DumpJob :=
  { subject := .channels, nextSweep := false, first := 0, count := 2, buffer := 0x4000
    written := written, phase := .writing none }

/-- A NEXT_SWEEP dump of two channel records that waits for a sweep. -/
def nextSweep (sweepAtTake : Bool) : DumpJob :=
  { dump 0 with nextSweep := true, phase := .waiting sweepAtTake }

/-- A SYNC in a slot that waits for the jobs of these take orders. -/
def withSync (order : Nat) (ws : List Nat) : State → State := withJob order .sync (.sync ws) none

/-- A RESCAN of addresses 3 and 5 at a place of its walk. -/
def withRescan (last : Nat) (probe : Option Probe) : State → State :=
  withJob 1 .rescan (.link 0) (some (.rescan 0x14 { last := last, probe := probe }))

/-! ## Resets, registers and memory -/

/-- R62 and R61: the latch after the two resets. -/
theorem test_resets_and_latch :
    (after .powerOnReset (latched .tripped live)).trip.latch = .clear
    ∧ (after .pcieReset (latched .tripped live)).trip.latch = .tripped
    ∧ (after .pcieReset live).pcie.busMastering = false
    ∧ (after (.controlReset 2) live).pcie.busMastering = true := by decide +kernel

/-- The example of 9.12: ENABLE clear ends HALTED in OFF and keeps FAULT; ENABLE set then loads. -/
theorem test_enable_after_halt :
    let f : FaultRegister := { code := .ringBusError, struct := .event, index := 10 }
    let s : State := { live with port := { live.port with fault := f }
                                 ring := { live.ring with iface := .halted } }
    let off := after (.enableClear 0) s
    let loading := after (.enableSet 1) off
    off.ring.iface = .off ∧ off.port.fault = f
    ∧ loading.ring.iface = .loading ∧ loading.port.fault = FaultRegister.none := by decide +kernel

/-- R183: writing 1 clears a cause, and an enabled cause is told once. -/
theorem test_causes :
    let s := live.raise { Causes.none with index := true }
    (after (.intCauseWrite 0x10) s).port.intCause = Causes.none
    ∧ (after (.interruptEnablesWrite 0x1001) s).pcie.messagesSent = 1 := by decide +kernel

/-- R167 and the example of R189: a write of 5000 to REQ_TAIL with a ring of 4096. -/
theorem test_setup_and_index :
    let s : State := { live with ring := { live.ring with desc := some { rings with requestExp := 12 } } }
    (after (.setupWrite 0x12345FFF) live).port.setup = 0x12345F80
    ∧ (after (.reqTailWrite 5000) s).port.intCause.index = true
    ∧ (after (.reqTailWrite 5000) s).ring.requestTail = 1
    ∧ (after (.reqTailWrite 0x70004) live).ring.requestTail = 4
    ∧ (after (.registerWriteIgnored 0x04 4 7) live) = live := by decide +kernel

/-- R181: a read of fewer bytes returns the bytes addressed. -/
theorem test_read_bytes :
    let s : State := { live with port := { live.port with
      setup := 0x12345680, intEnable := { Causes.none with index := true } } }
    s.readBytes 0x0C 4 = [0x80, 0x56, 0x34, 0x12] ∧ s.readBytes 0x0D 2 = [0x56, 0x34]
    ∧ s.readBytes 0x01 1 = [0x10] ∧ s.readBytes 0x10 1 = [1] := by decide +kernel

/-- The example of 9.12: EVT_HEAD 10 with the tail at 12 is accepted in LIVE and ignored in HALTED. -/
theorem test_heads :
    let s : State := { live with ring := { live.ring with eventTail := 12, eventHead := 5, completionTail := 3 } }
    (after (.evtHeadWrite 10) s).ring.eventHead = 10
    ∧ (after (.evtHeadWrite 13) s).port.intCause.index = true
    ∧ (after (.cplHeadWrite 3) s).ring.completionHead = 3
    ∧ (after (.evtHeadWrite 10) { s with ring := { s.ring with iface := .halted } }).ring.eventHead = 5 := by
  decide +kernel

/-- A setup block with the rings of `rings` and one window: its bytes by the table of 10.2. -/
def setupBlock : BitVec 1024 :=
  [(0x00, 0x1000), (0x08, 0x2000), (0x10, 0x3000), (0x18, 0x040404), (0x1C, 0x0A040A04),
   (0x20, 0), (0x28, 0x100000000), (0x30, 3)].foldl
    (fun acc p => acc ||| (BitVec.ofNat 1024 p.2 <<< (8 * p.1))) 0

/-- R168 to R171: LOADING ends in LIVE with the rings loaded; an exponent of 3 is RING_SIZE. -/
theorem test_loading :
    let s : State := { inFlight .setupRead true live with ring := { live.ring with iface := .loading } }
    let t := after (.setupReadDone (some setupBlock)) s
    let h := after (.setupReadDone (some (setupBlock - (BitVec.ofNat 1024 1 <<< 0xC0)))) s
    t.ring.iface = .live ∧ t.ring.desc = some rings ∧ t.ring.requestTail = 0
    ∧ h.ring.iface = .halted ∧ h.port.fault = { code := .ringSize, struct := .request, index := 0 }
    ∧ (after (.setupReadDone none) s).port.fault.code = .setupBusError := by decide +kernel

/-- The order of R179, and the address of a slot. -/
theorem test_grant :
    let c : CompletionWrite := { slot := 3, lap := true, record := Completion.plain 1 5 .ok }
    let s : State := { live with ring := { live.ring with completionWrites := [c] } }
    (after .memoryGrant s).mem.inFlight.map (fun a => (a.kind, a.address, a.bytes)) =
      some (.completionWrite 3, 0x2030, [1, 1, 5, 0, 0, 0, 0, 0, 0, 0, 0, 0, 0, 0, 0, 0])
    ∧ (after .memoryGrant live).mem.inFlight.map (fun a => (a.kind, a.address)) =
      some (.requestFetch 0 false, 0x1000) := by decide +kernel

/-- R146 and R44. -/
theorem test_fetch_and_completion_written :
    ((after (.requestFetchDone 7) (inFlight (.requestFetch 0 false) true live)).req.staged.map
      Staged.record) = some 7
    ∧ (after (.requestFetchDone 7) (inFlight (.requestFetch 0 true) true live)).req.staged = none
    ∧ (after .completionWriteDone (inFlight (.completionWrite 0) true live)).ring.completionMod
      = { count := 1, since := some 0 } := by decide +kernel

/-- The example of 2.12: the first record written is urgent, and its message is sent. -/
theorem test_event_written :
    let s : State := { live with port := { live.port with
      intEnable := { Causes.none with event := true, urgent := true } } }
    let t := after .eventWriteDone (inFlight (.eventWrite 0 true) true s)
    t.evt.posted = 1 ∧ t.ring.eventMod.count = 1 ∧ t.port.intCause.urgent = true
    ∧ t.port.intCause.event = false ∧ t.pcie.messagesSent = 1 := by decide +kernel

/-- The example of 2.12: 10 ms after the first write the delay raises EVENT. -/
theorem test_moderation_delay :
    let s : State := { inState .stopped 10 live with ring := { live.ring with
      eventMod := { count := 2, since := some 0 }, completionMod := { count := 1, since := some 1 } } }
    (after .eventModerationDelay s).port.intCause.event = true
    ∧ (after .eventModerationDelay s).ring.eventMod.count = 0
    ∧ (after .completionModerationDelay s) = s := by decide +kernel

/-- The example of 9.12: the write of slot 10 fails with slot 11 waiting. -/
theorem test_halt :
    let e : EventWrite := { slot := 11, lap := true, record :=
      { source := .link, generation := 0, before := 0, after := 0, detail := 0, urgent := false
        count := 1, first := 0, value := 0, offset := 0 } }
    let s := onBus (statusRead 3 .job)
      (withJob 1 .freshRead (.link 1) (some (fresh .poll true)) live)
    let t := after .ringBusError (inFlight (.eventWrite 10 false) false
      { s with ring := { s.ring with eventWrites := [e] } })
    t.ring.iface = .halted ∧ t.evt.discarded = 2
    ∧ t.port.fault = { code := .ringBusError, struct := .event, index := 10 }
    ∧ t.req.jobs.map Job.abandoned = [true] ∧ t.req.taken = 0 := by decide +kernel

/-- R159 and R162: a dump of two records. -/
theorem test_dump_writes :
    let s := fun k => inFlight (.dumpWrite 1) true (withJob 1 .dump (.dump (dump k)) none live)
    let offline : State := { s 1 with pcie := { (s 1).pcie with linkUp := false } }
    (after .dumpWriteDone (s 0)).ring.completionWrites = []
    ∧ ((after .dumpWriteDone (s 1)).ring.completionWrites.map fun w => (w.record.status, w.record.value))
      = [(.ok, 2)]
    ∧ ((after .dumpWriteBusError offline).ring.completionWrites.map fun w =>
        (w.record.status, w.record.value)) = [(.busError, 1)] := by decide +kernel

/-- R172: DRAINING ends when nothing is left, in OFF with ENABLE clear. -/
theorem test_draining :
    let s : State := { live with ring := { live.ring with iface := .draining }
                                 port := { live.port with enable := false } }
    (after .drainingExit s).ring.iface = .off
    ∧ (after .drainingExit (withJob 1 .dump (.dump (dump 0)) none s)).ring.iface = .draining := by
  decide +kernel

/-! ## Requests -/

/-- The completions claimed: tag, status, request head. -/
def answers (s : State) : List (BitVec 16 × Status × BitVec 16) :=
  s.ring.completionWrites.map fun w => (w.record.tag, w.record.status, w.record.head)

/-- R155 and R149: NOP, and a kind that is not known. -/
theorem test_nop_and_unknown :
    answers (after .nop (asks [1, 0, 6] live)) = [(6, .ok, 1)]
    ∧ answers (after .nop (asks [1, 1, 6] live)) = [(6, .badField, 1)]
    ∧ answers (after .unknownKind (asks [16, 0, 6] live)) = [(6, .badKind, 1)]
    ∧ after .nop (asks [2, 0, 6] live) = asks [2, 0, 6] live := by decide +kernel

/-- The example of 8.10: a SYNC behind a job waits for it; alone it completes at its take. -/
theorem test_sync :
    let s := withJob 1 .dump (.dump (dump 1)) none (asks [2, 0, 3] live)
    let t := after .sync s
    answers (after .sync (asks [2, 0, 3] live)) = [(3, .ok, 1)]
    ∧ answers t = [] ∧ t.req.jobs.map Job.work = [.dump (dump 1), .sync [1]]
    ∧ answers (after .dumpWriteDone (inFlight (.dumpWrite 1) true t)) = [(1, .ok, 1), (3, .ok, 1)] := by
  decide +kernel

/-- R137 and R138: a sweep period of 20 ms and a stale limit of 60 ms, from GUARD and out of range. -/
theorem test_configure :
    let r := [3, 0, 7, 0, 20, 0, 60, 0, 100, 0, 0, 0, 1, 0, 1]
    (after .configure (asks r live)).mon.state = .stopped
    ∧ (after .configure (asks r live)).mon.params.sweepPeriod = 20
    ∧ answers (after .configure (asks [3, 0, 7, 0, 9, 0, 60, 0, 100, 0, 0, 0, 1, 0, 1] live))
      = [(7, .badField, 1)] := by decide +kernel

/-- R139 and R144. -/
theorem test_start_and_stop :
    (after .start (asks [4] (inState .stopped 0 live))).mon.state = .enumerating
    ∧ (after .start (asks [4] (inState .stopped 0 live))).sched.timer
      = some { next := 1000, period := 1000 }
    ∧ (after .stop (asks [5] (inState .monitoring 0 live))).mon.state = .stopped
    ∧ answers (after .stop (asks [5, 0, 9] (inState .stopped 0 live))) = [(9, .badState, 1)] := by
  decide +kernel

/-- DEFINE_CHANNEL 5 on station 3, function 1, point 2, with the limits of 1.11. -/
def define : List Nat :=
  [6, 0, 1, 0, 5, 3, 1, 2, 0, 0, 0, 14, 32, 0, 0, 0, 160, 0, 176, 4, 160, 5]

/-- R18 and R19, with the channel of 1.11. -/
theorem test_define :
    let s := (inState .stopped 4 live).setStn 3 adopted
    let t := after .defineChannel (asks define s)
    (t.chan 5).condition = .pending ∧ (t.chan 5).generation = 1
    ∧ (t.chan 5).binding.map Binding.limits = some limits
    ∧ (t.stn 3).plan = { fns := 2, attn := 0 } ∧ (t.stn 3).planApplied = false
    ∧ answers (after .defineChannel (asks define (s.setChan 6 (bound 3 1 2 false .normal))))
      = [(1, .pointTaken, 1)]
    ∧ answers (after .defineChannel (asks define (s.setStn 3 { adopted with shape := some ⟨1, 4⟩ })))
      = [(1, .badPoint, 1)] := by decide +kernel

/-- R20, R37 and the example of 2.12: the retired channel's entry is discarded. -/
theorem test_retire :
    let s := (inState .stopped 4 live).setChan 12 (bound 4 0 0 false .normal)
    let off : State := { s with ring := { s.ring with iface := .off } }
    let e := off.notify (off.channelNotice 12 .normal (bound 4 0 0 false .unreachable))
    let t := after .retireChannel (asks [7, 0, 0, 0, 12] { e with ring := s.ring })
    (t.chan 12).bound = false ∧ (t.chan 12).generation = 1 ∧ t.evt.discarded = 1
    ∧ t.evt.backlog = [] ∧ t.ring.completionWrites.map (fun w => w.record.discarded) = [true] := by
  decide +kernel

/-- The end of the example of 1.11: high lowered to 190 with the last value 200. -/
theorem test_setLimits :
    let c := { bound 3 1 2 false .normal with last := some { value := 200, quality := .valid, time := 0 } }
    let s := (inState .monitoring 4 live).setChan 5 c
    let r := [8, 0, 0, 0, 5, 0, 0, 0, 0, 0, 0, 14, 32, 0, 0, 0, 160, 0, 190, 0, 160, 5]
    ((after .setLimits (asks r s)).chan 5).condition = .highAlarm
    ∧ ((after .setLimits (asks r (inState .stopped 4 s))).chan 5).condition = .normal := by
  decide +kernel

/-- R22: a read that clears the peaks. -/
theorem test_readChannel :
    let s := (inState .stopped 4 live).setChan 5 (bound 3 1 2 false .normal)
    let t := after .readChannel (asks [9, 0, 0, 0, 5, 1] s)
    (t.chan 5).peaks = none
    ∧ t.ring.completionWrites.map (fun w => (w.record.value, w.record.stateOrCondition)) = [(1180, 2)]
    ∧ answers (after .readChannel (asks [9, 0, 0, 0, 6] s)) = [(0, .notBound, 1)]
    ∧ answers (after .readChannel (asks [9, 0, 0, 0, 128] s)) = [(0, .badChannel, 1)] := by
  decide +kernel

/-- Station 3 of the example of 5.10, with channel 31 on function 1, point 1. -/
def monitoring : State :=
  ((inState .monitoring 5 live).setStn 3 adopted).setChan 31 (bound 3 1 1 false .normal)

/-- R103, R104 and the example of 5.10. -/
theorem test_freshRead :
    let t := after .freshRead (asks [10, 0, 2, 0, 31] monitoring)
    t.sched.jobs.map LinkJob.order = [1] ∧ t.req.jobs.map Job.order = [1]
    ∧ (after .linkGrant t).bus.txn.map (fun x => (x.address, x.data)) = some (3, some 0x0201)
    ∧ answers (after .freshRead (asks [10, 0, 2, 0, 31] (monitoring.setStn 3 silent)))
      = [(2, .stationLost, 1)] := by decide +kernel

/-- R76. -/
theorem test_rescan :
    let t := after .rescan (asks [11, 0, 5, 0, 32] (inState .monitoring 5 live))
    t.sched.jobs.map LinkJob.work = [.rescan 32 { last := 0, probe := none }]
    ∧ answers (after .rescan (asks [11, 0, 5] (inState .monitoring 5 live))) = [(5, .badField, 1)] := by
  decide +kernel

/-- The example of 4.9 at 9800: station 6 is accepted. -/
theorem test_acceptStation :
    let q := { adopted with state := .rejected, reason := some .changed, planApplied := false
                            classRev := some { cls := 2, rev := 4 } }
    let s := ((inState .stopped 5 live).setStn 6 q).setChan 40 (bound 6 0 0 false .unreachable)
    let t := after .acceptStation (asks [12, 0, 0, 0, 6] s)
    (t.stn 6).state = .adopted ∧ (t.stn 6).fingerprint.map Fingerprint.classRev = some { cls := 2, rev := 4 }
    ∧ (t.stn 6).planApplied = false ∧ (t.chan 40).condition = .pending
    ∧ answers (after .acceptStation (asks [12, 0, 0, 0, 2] s)) = [(0, .badState, 1)] := by decide +kernel

/-- The example of 8.10: DUMP CHANNELS LATEST, first 0, count 32. -/
theorem test_dump :
    let r := [13, 0, 2, 0, 1, 0, 0, 32, 0, 64]
    (after .dump (asks r live)).req.dumpQueue = [1]
    ∧ answers (after .dump (asks [13, 0, 2, 0, 1, 0, 0, 129, 0, 64] live)) = [(2, .badField, 1)]
    ∧ answers (after .dump (asks [13, 0, 2, 0, 1, 0, 0, 32, 0, 64, 0, 0, 1] live))
      = [(2, .windowFault, 1)] := by decide +kernel

/-- The example of 3.11 at 6000: the rearm with channel 20 CRITICAL; and with no member at all. -/
theorem test_rearm :
    let s := latched .tripped ((inState .monitoring 6000 live).setChan 20 (bound 2 0 0 true .critical))
    let t := after .rearmTrip (asks [14] s)
    t.trip.latch = .rearmWait ∧ t.trip.rearmTime = some 6000
    ∧ (after .rearmTrip (asks [14] (latched .tripped (inState .stopped 0 live)))).trip.latch = .clear
    ∧ (after .rearmTrip (asks [14] live)).ring.completionWrites.map (fun w => w.record.notTripped)
      = [true] := by decide +kernel

/-- R57. -/
theorem test_force :
    (after .forceTrip (asks [15] live)).trip.cause.map (fun c => (c.kind, c.count)) = some (.forced, 1)
    ∧ (after .forceTrip (asks [15] (latched .rearmWait live))).trip.cause.map (fun c => (c.kind, c.count))
      = some (.critical, 3) := by decide +kernel

/-! ## The condition unit and the event unit -/

/-- The example of 1.11: the condition before and the value of each VALID reading. -/
theorem test_conditions_of_example :
    ([(.pending, 1180), (.normal, 1210), (.highAlarm, 1180), (.highAlarm, 1450), (.critical, 1420),
      (.critical, 1400), (.highAlarm, 1160), (.sensorFault, 150), (.lowAlarm, 180), (.lowAlarm, 200)].map
      fun p : Condition × Int => judge .signed limits p.1 p.2)
    = [.normal, .highAlarm, .highAlarm, .critical, .critical, .highAlarm, .normal, .lowAlarm, .lowAlarm,
      .normal] := by decide +kernel

/-- The example of 2.12 at 1040: a CRITICAL change is merged into channel 7's entry. -/
theorem test_merge :
    let s : State := inState .stopped 1000 State.reset
    let c := fun v cond => { bound 2 0 0 false cond with last := some { value := v, quality := .valid, time := 0 } }
    let t := s.notify (s.channelNotice 7 .normal (c 1210 .highAlarm))
    let u := inState .stopped 1040 t
    let v := u.notify (u.channelNotice 7 .highAlarm (c 1450 .critical))
    v.evt.backlog.map (fun e => (e.before, e.after, e.count, e.offset)) = [(2, 5, 2, 40)]
    ∧ v.evt.backlog.map (fun e => (e.value, e.urgent)) = [(1450, true)] ∧ v.evt.coalesced = 1 := by
  decide +kernel

/-! ## Steps on monitor time -/

/-- R131 and R16: 3001 ms after the last reading the channel is STALE; at 3000 it is not. -/
theorem test_tick_and_freshness :
    (after .monitorTimeTick (inState .stopped 0xFFFFFFFF live)).mon.time = 0
    ∧ ((after .freshnessStep (inState .monitoring 3010 monitoring)).chan 31).condition = .stale
    ∧ ((after .freshnessStep (inState .monitoring 3000 monitoring)).chan 31).condition = .normal
    ∧ ((after .freshnessStep (inState .monitoring 3011 monitoring)).chan 31).condition = .normal := by
  decide +kernel

/-- The example of 7.11 at 20251: 251 ms exceed the grace of 250 ms. -/
theorem test_grace :
    let s := fun t => faulted 20000 ((inState .recovering t live).setChan 20 (bound 5 0 0 true .unreachable))
    (after .tripGraceExpiry (s 20251)).trip.cause
      = some { kind := .link, source := 0, time := 20251, count := 1 }
    ∧ (after .tripGraceExpiry (s 20250)).trip.latch = .clear := by decide +kernel

/-- The example of 5.10: the timer fires at 4000. A second firing with a sweep present is an overrun. -/
theorem test_sweep_timer :
    let s : State := { inState .monitoring 4000 live with sched := { Scheduler.reset with
      timer := some { next := 4000, period := 1000 } } }
    let t := after .sweepTimerFiring s
    t.sched.sweep = some { beginTime := 4000, position := .after 0 }
    ∧ t.sched.timer.map SweepTimer.next = some 5000
    ∧ (after .sweepTimerFiring (inState .monitoring 5000 t)).sched.sweepOverruns = 1
    ∧ (after .sweepTimerFiring (inState .monitoring 4999 t)).sched.owedSweep = false := by decide +kernel

/-- R107: 200 ms after its take the FRESH_READ ends TIMEOUT; at 199 ms it stays. -/
theorem test_fresh_timeout :
    let s := fun t => withJob 1 .freshRead (.link 1) (some (fresh .convert false)) (inState .monitoring t live)
    answers (after .freshReadTimeout (s 200)) = [(1, .timeout, 0)]
    ∧ (after .freshReadTimeout (s 200)).sched.jobs = [] ∧ answers (after .freshReadTimeout (s 199)) = [] := by
  decide +kernel

/-- R105: the poll wait of 2 ms. -/
theorem test_poll_wait :
    let s := fun t => withJob 1 .freshRead (.link 1) (some (fresh (.waiting 0) true)) (inState .monitoring t live)
    (after .pollWaitExpiry (s 2)).sched.jobs.map LinkJob.work = [fresh .poll true]
    ∧ (after .pollWaitExpiry (s 1)).sched.jobs.map LinkJob.work = [fresh (.waiting 0) true] := by
  decide +kernel

/-- A part in GUARD that watches station 1. -/
def watching (time : Time) (q : Station) (poll : Option GuardPoll) : State :=
  let s : State := { live with mon := { live.mon with
    time := time, guardStage := some .watching, nextGuardPoll := some 100, guardPoll := poll } }
  s.setStn 1 q

/-- A guard poll begun at time 0. -/
def poll (stage : GuardPollStage) : GuardPoll :=
  { stage := stage, beginTime := 0, fault := false, quality := 0 }

/-- R133: the poll is due at its time; the next one 250 ms later; its waits. -/
theorem test_guard_poll :
    (after .guardPollDue (watching 100 adopted none)).mon.nextGuardPoll = some 350
    ∧ (after .guardPollDue (watching 99 adopted none)).mon.guardPoll = none
    ∧ (after .guardPollWaitExpiry (watching 2 adopted (some (poll (.waiting 0))))).mon.guardPoll
      = some (poll .poll)
    ∧ (after .guardPollTimeout (watching 200 adopted (some (poll .poll)))).mon.guardPoll = none
    ∧ (after .guardPollTimeout (watching 200 adopted (some (poll .quality)))).mon.guardPoll
      = some (poll .quality) := by decide +kernel

/-- R134: station 1 is reprobed when its time has come. -/
theorem test_guard_reprobe :
    (after .guardReprobeDue (watching 0 silent none)).mon.guardReprobe = some { last := 0, probe := none }
    ∧ (after .guardReprobeDue (watching 0 adopted none)).mon.guardReprobe = none := by decide +kernel

/-- The example of 7.11 at 22001: 2000 ms after the report a new round begins. -/
theorem test_retry_wait :
    let s := fun t => let x : State := inState .recovering t live
      { x with mon := { x.mon with
          recovery := some { stage := .retryWait 20001, reason := .lineStuck }, rounds := 1 } }
    (after .recoveryRetryWaitExpiry (s 22001)).mon.rounds = 2
    ∧ (after .recoveryRetryWaitExpiry (s 22000)).mon.rounds = 1 := by decide +kernel

/-! ## The Drop Bus -/

/-- The check of the bytes of "123456789", the usual example of this polynomial. -/
theorem test_crc :
    crc8 (([0x31, 0x32, 0x33, 0x34, 0x35, 0x36, 0x37, 0x38, 0x39] : List Byte).flatMap bitsMSB) = 0xF4 := by
  decide +kernel

/-- The first example of 6.9: a CORRUPT response, then a good one; 100 / 4 / 1 becomes 101 / 5 / 1. -/
theorem test_corrupt_then_good :
    let s := onBus { statusRead 3 .sweep with register := 49, purpose := .qualityRead 1 } monitoring
    let u : State := { s with bus := { s.bus with transactions := 100, retries := 4, missed := 1 } }
    let t := after (.responseReceived [true, false, true, false, true]) u
    let v := after (.responseReceived (StationDevice.ackRead 5)) t
    t.bus.txn.map Transaction.second = some true ∧ t.bus.transactions = 100
    ∧ (v.bus.transactions, v.bus.retries, v.bus.missed) = (101, 5, 1) ∧ v.bus.txn = none := by
  decide +kernel

/-- The example of 4.9 at 8008: the third MISSED in a row makes station 6 SILENT. -/
theorem test_third_miss :
    let s := ((inState .monitoring 8008 live).setStn 2 adopted).setStn 6 { adopted with missCount := 2, failed := 2 }
    let t := after .responseWindowExpiry (onBus { statusRead 6 .sweep with second := true }
      (s.setChan 40 (bound 6 0 0 false .normal)))
    (t.stn 6).state = .silent ∧ (t.stn 6).reprobeAt = some 8508 ∧ (t.stn 6).failed = 3
    ∧ (t.stn 6).missCount = 0 ∧ (t.chan 40).condition = .unreachable
    ∧ (t.chan 40).reason = some .silent ∧ t.mon.state = .monitoring := by decide +kernel

/-- The third example of 6.9: the start check of the second attempt fails. -/
theorem test_start_check_fails :
    let s := onBus { statusRead 3 .sweep with second := true, phase := .startCheck } monitoring
    let u : State := { s with bus := { s.bus with datLow := true, transactions := 102, retries := 6, missed := 2 } }
    let t := after (.startCheckTimeout false) u
    (t.bus.transactions, t.bus.retries, t.bus.missed) = (103, 7, 3) ∧ t.bus.stuckReported = true
    ∧ t.mon.state = .recovering ∧ (t.stn 3).reason = some .linkFault := by decide +kernel

/-- The example of 5.10, row 10: the reading of channel 31 completes the FRESH_READ. -/
theorem test_reading_completes_fresh :
    let x := { statusRead 3 .attention with
      register := 25
      purpose := .readingRead 1 1
        (some { channel := 31, generation := 1, quality := some .valid, fault := false }) }
    let s := onBus x (withJob 1 .freshRead (.link 1) (some (fresh (.waiting 4) true)) monitoring)
    let t := after (.responseReceived (StationDevice.ackRead 1210)) s
    answers t = [(1, .ok, 0)] ∧ (t.chan 31).condition = .highAlarm ∧ t.sched.jobs = []
    ∧ t.ring.completionWrites.map (fun w => w.record.value) = [1210] := by decide +kernel

/-- The example of 7.11 at 20000: entry to RECOVERING. -/
theorem test_line_stuck :
    let s : State := { monitoring with bus := { monitoring.bus with datLow := true } }
    let t := after .lineMonitorStuck s
    t.mon.state = .recovering ∧ t.mon.rounds = 1 ∧ (t.stn 3).reason = some .linkFault
    ∧ (t.chan 31).condition = .unreachable ∧ t.trip.latch = .clear
    ∧ after .lineMonitorStuck t = t := by decide +kernel

/-- The example of 7.11: the release sequence finds the line low, then high; the broadcast; probing. -/
theorem test_primitives :
    let s : State := inState .recovering 20001 live
    let low : State := { s with bus := { s.bus with datLow := true } }
    let t := after .releaseSequenceEnd (after .linkGrant s)
    let u := after .linkGrant t
    (after .releaseSequenceEnd (after .linkGrant low)).mon.recovery.map Recovery.stage
      = some (.retryWait 20001)
    ∧ t.mon.recovery.map Recovery.stage = some .broadcastReset
    ∧ u.bus.primitive.map Primitive.kind = some .broadcastSettle
    ∧ u.bus.lastFrame.take 12 = [false, false, false, false, true, false] ++ List.replicate 6 false
    ∧ (after .broadcastResetSettleEnd u).mon.recovery.map Recovery.stage
      = some (.probing { last := 0, probe := none }) := by decide +kernel

/-- R116 and R126: a waiting start check goes on when DB_DAT is released. -/
theorem test_dat :
    let s := after .dbDatLow (onBus { statusRead 3 .sweep with phase := .startCheck } monitoring)
    s.bus.datLow = true
    ∧ (after .dbDatReleased s).bus.txn.map Transaction.phase = some .awaiting
    ∧ (after .dbDatReleased s).bus.lastFrame = requestFrame 3 2 none := by decide +kernel

/-- R101 and R102: DB_ATTN released clears the stuck mark. -/
theorem test_attn :
    let s := after .dbAttnAsserted monitoring
    let k : State := { s with sched := { s.sched with attnStuck := true }
                              mon := { s.mon with attnPartStuck := true } }
    s.bus.attnLow = true ∧ (after .dbAttnReleased k).sched.attnStuck = false
    ∧ (after .dbAttnReleased k).mon.attnPartStuck = false
    ∧ (after .dbAttnReleased k).ring.eventWrites.map (fun w => (w.record.before, w.record.after))
      = [(2, 0)] := by decide +kernel

/-- A station part way through a response, with DB_DAT held low. -/
def sending (pulsesLeft : Nat) : StationDevice :=
  let d : StationDevice :=
    { address := 3, cls := 2, rev := 3, fns := 2, pts := 4, fault := false, resetDone := true
      fnEnables := 0, attnEnables := 0, flags := 0, running := 0, requested := 0
      results := Vector.replicate 4 [] }
  (d.beginFrame true pulsesLeft).driveBit true

/-- R125: sixteen pulses beyond the frame's length, or 1 ms of idle clock, make it abandon the frame;
a start mark among the pulses begins the count again, and the release sequence always frees DB_DAT. -/
theorem test_station_abandons :
    let pulses := fun n d => (List.range n).foldl (fun (e : StationDevice) _ => e.pulse false) d
    (sending 5).holdsDat = true
    ∧ (pulses 20 (sending 5)).holdsDat = true ∧ (pulses 21 (sending 5)).holdsDat = false
    ∧ (pulses 15 ((pulses 15 (sending 0)).pulse true)).holdsDat = true
    ∧ ((sending 5).clockIdle 999).holdsDat = true ∧ ((sending 5).clockIdle 1000).frame = none
    ∧ (sending 300).releaseSequence.holdsDat = false := by decide +kernel

/-- R122 to R125: an enabled function converts pass after pass, a convert-now makes one pass of one that
is not enabled, and no pass of a function that is stopped or idle ends; the three resets and the frame. -/
theorem test_station_passes :
    let d := sending 5
    let on := d.control 0x0001
    let once := d.control 0x0200
    let pass := fun fn v (e : StationDevice) => e.passEnds fn fun p => (v + BitVec.ofNat 16 p, .valid)
    let twice := pass 0 7 (pass 0 5 on)
    let value := fun (e : StationDevice) fn p => (e.point fn p).1
    twice.readValue 19 = some 10 ∧ twice.readValue 20 = none ∧ twice.flags = 0
    ∧ pass 0 9 d = d ∧ pass 1 9 on = on
    ∧ (let e := pass 1 5 once
       value e 1 3 = 8 ∧ e.flags = 2 ∧ e.running = 0 ∧ pass 1 9 e = e)
    ∧ (let e := (pass 0 5 on).control 0
       pass 0 9 e = e ∧ value e 0 0 = 5 ∧ (e.control 1).point 0 0 = (0, .convertErr))
    ∧ pass 0 9 on.reset = on.reset ∧ (on.control 0x2000).holdsDat = true
    ∧ on.powerUp.holdsDat = false ∧ on.powerUp.resetDone = true := by decide +kernel

/-- R180 and R183: the port's own commands. -/
theorem test_port :
    (after (.portConfigurationWrite false true) live).pcie.canWrite = false
    ∧ (after .pcieLinkUp (after .pcieLinkDown live)).pcie = live.pcie
    ∧ (after .pcieLinkDown live).pcie.canMessage = false := by decide +kernel

/-! ## Witnesses: states and operands that meet the hypotheses of the statements -/

/-- The queue holds a command, and the reset queue is empty. -/
theorem witness_StepTakesTheFrontCommand :
    ({ State.reset with pending := [.nop, .sync] } : State).pending = .nop :: [.sync]
    ∧ State.reset.pending = [] := ⟨rfl, rfl⟩

theorem witness_PowerOnResetsTheTrip : 1760 ≤ (1760 : Count).toInt := by decide

theorem witness_ControllerResetKeepsTheTrip :
    (Instr.controlReset 2 = .controlReset 2 ∧ (2 : BitVec 32).getLsbD 1 = true)
    ∧ (latched .rearmWait live).trip.latch = .rearmWait ∧ (1759 : Count).toInt < 1760
    ∧ (latched .tripped live).trip.latch = .tripped := by decide +kernel

/-- A tick waits in the queue. -/
def ticking (s : State) : State := { s with pending := [.monitorTimeTick] }

theorem ticking_stn (s : State) : (ticking s).stn = s.stn := rfl

theorem ticking_chan (s : State) : (ticking s).chan = s.chan := rfl

theorem ticks (s : State) : ∃ t, step (ticking s) = .next t := ⟨_, rfl⟩

/-- An entry of the backlog. -/
def entry (src : Source) : Entry :=
  { source := src, generation := 0, before := 2, after := 4, detail := 0, urgent := false
    count := 1, first := 0, value := 0, offset := 0 }

/-- An OFF interface with two entries in the backlog. -/
def held : State :=
  { State.reset with evt := { EventUnit.reset with backlog := [entry (.channel 7), entry .link] } }

theorem witness_EveryStepKeepsTheBacklogLaw :
    (ticking held).BacklogLaw ∧ ∃ t, step (ticking held) = .next t :=
  ⟨{ oneEach := by decide +kernel, drained := by decide +kernel }, ticks held⟩

theorem witness_EveryStepKeepsTheTripLaw :
    (ticking (latched .rearmWait live)).TripLaw ∧ ∃ t, step (ticking (latched .rearmWait live)) = .next t :=
  ⟨{ caused := by decide +kernel
     counted := by intro c h; cases h; decide
     rearmed := by decide +kernel
     faultTimed := by decide +kernel }, ticks _⟩

theorem witness_EveryStepKeepsTheChannelLaw :
    (ticking (State.reset.setChan 5 (bound 3 1 2 false .normal))).ChannelLaw
    ∧ ∃ t, step (ticking (State.reset.setChan 5 (bound 3 1 2 false .normal))) = .next t := by
  refine ⟨{ each := fun n => ?_, onePoint := ?_ }, ticks _⟩
  · change ((State.reset.setChan 5 (bound 3 1 2 false .normal)).chan n).Lawful
    rw [State.chan_setChan]
    split
    · exact {
        unboundIff := by decide
        blank := by decide
        reasonIff := by decide
        pendingTimed := by decide
        read := by decide
        placed := by intro b h; cases h; decide
        limited := by intro b h; cases h; decide
        peaksOrdered := by intro b p h k; cases h; cases k; decide }
    · have h : State.reset.chan n = Channel.reset := by
        by_cases hn : n < 128
        · simp [State.chan, State.reset, hn]
        · exact State.chan_above _ (by omega)
      rw [h]
      exact {
        unboundIff := by decide
        blank := by decide
        reasonIff := by decide
        pendingTimed := by decide
        read := by decide
        placed := by intro b h; cases h
        limited := by intro b h; cases h
        peaksOrdered := by intro b p h; cases h }
  · intro n m hn hm
    change ((State.reset.setChan 5 (bound 3 1 2 false .normal)).chan n).bound = true →
      ((State.reset.setChan 5 (bound 3 1 2 false .normal)).chan n).loc
        = ((State.reset.setChan 5 (bound 3 1 2 false .normal)).chan m).loc → n = m
    have e : ∀ k, k < 128 → State.reset.chan k = Channel.reset := fun k hk => by
      simp [State.chan, State.reset, hk]
    rw [State.chan_setChan, State.chan_setChan]
    split <;> split
    · omega
    · rw [e m hm]; intro _ h; cases h
    · rw [e n hn]; intro h; cases h
    · rw [e n hn]; intro h; cases h

/-- The sweep probes SILENT station 3, and step 2 is on the bus; station 4 is ADOPTED with two functions of
four points, and channel 7 is bound to a fifth point of it. -/
def reprobing : State :=
  let p : Probe := { address := 3, step := .id1, written := { fns := 1, attn := 0 } }
  let x := { statusRead 3 .sweep with register := 1, purpose := .probeStep .id1 p.written }
  let s := (State.reset.setStn 3 { silent with holder := some .sweep }).setStn 4 adopted
  let t := ((s.setChan 5 (bound 3 1 2 true .unreachable)).setChan 6 (bound 4 1 3 false .normal)).setChan 7
    { bound 4 1 4 false .unreachable with reason := some .noPoint }
  onBus x { t with sched := { t.sched with sweep := some { beginTime := 4, position := .probing p } } }

theorem witness_EveryStepKeepsTheStationLaw :
    (ticking reprobing).StationLaw ∧ ∃ t, step (ticking reprobing) = .next t := by
  refine ⟨⟨fun a => ?_, ?_⟩, ticks _⟩
  · have h : (reprobing.stn a) ∈ [Station.reset, { silent with holder := some .sweep }, adopted] := by
      by_cases ha : a < 13
      · have := (by decide +kernel : ∀ a < 13,
          (reprobing.stn a) ∈ [Station.reset, { silent with holder := some .sweep }, adopted])
        exact this a ha
      · unfold State.stn
        rw [if_neg (by omega), Vector.getElem?_eq_none (by omega)]
        exact List.mem_cons_self
    rw [ticking_stn]
    simp only [List.mem_cons, List.not_mem_nil, or_false] at h
    rcases h with h | h | h <;> rw [h] <;> exact {
      silentReason := by decide
      rejectedReason := by decide
      otherReason := by decide
      reprobed := by decide
      missed := by decide
      flagged := by decide
      adoptedKnown := by intro h; first | exact ⟨_, rfl, rfl⟩ | cases h
      changedKnown := by decide }
  · exact {
      onBus := by intro x step p h k; cases h; cases k; exact rfl
      enumerating := by intro w h; cases h
      recovering := by intro r w h; cases h
      starting := by intro sent p h; cases h; intro p h; cases h
      reprobing := by intro w h; cases h
      sweeping := by intro w p h k; cases h; cases k; exact rfl
      rescanning := by intro j h; cases h }

/-- A channel of each kind: its station SILENT, ADOPTED with its point, ADOPTED without it. -/
theorem witness_EveryStepKeepsTheChannelLaw_reach :
    (ticking reprobing).ReachLaw ∧ (ticking reprobing).StationLaw
    ∧ (∃ t, step (ticking reprobing) = .next t)
    ∧ [5, 6, 7].map (fun n => (reprobing.chan n).condition) = [.unreachable, .normal, .unreachable] := by
  refine ⟨fun n b hb => ?_, witness_EveryStepKeepsTheStationLaw.1, ticks _, by decide +kernel⟩
  have h : ∀ n < 128, ((reprobing.chan n).binding.all fun b =>
      let r := reprobing.stn b.loc.station
      decide ((reprobing.chan n).condition = .unreachable ↔
        r.state = .silent ∨ r.state = .absent ∨ r.state = .rejected
          ∨ (r.state = .adopted ∧ r.hasPoint b.loc.fn b.loc.point = false))) = true := by decide +kernel
  rw [ticking_chan] at hb ⊢
  rw [ticking_stn]
  by_cases hn : n < 128
  · have := h n hn
    rw [hb] at this
    exact of_decide_eq_true this
  · rw [State.chan_above _ (by omega)] at hb
    cases hb

/-- A part that is MONITORING with its sweep timer running. -/
def sweeping : State :=
  { monitoring with sched := { monitoring.sched with timer := some { next := 1000, period := 1000 } } }

theorem witness_EveryStepKeepsTheLinkLaw :
    (ticking sweeping).LinkLaw ∧ ∃ t, step (ticking sweeping) = .next t :=
  ⟨{ monitor := {
       guarding := by decide +kernel
       staged := by decide +kernel
       enumerating := by decide +kernel
       recovering := by decide +kernel
       polling := by decide +kernel
       reprobing := by decide +kernel
       timed := by decide +kernel
       sweeping := by decide +kernel
       passing := by decide +kernel }
     faulted := by decide +kernel
     upMonitoring := by decide +kernel
     upStopped := by decide +kernel
     incomplete := by decide +kernel }, ticks sweeping⟩

/-- A part with a FRESH_READ and a dump in slots, and an event write in flight. -/
def working : State :=
  inFlight (.eventWrite 10 false) false
    (withJob 2 .dump (.dump (dump 0)) none
      (withJob 1 .freshRead (.link 1) (some (fresh .poll true)) monitoring))

/-- A LIVE state with the rings of `rings` that passes these tests meets the law. -/
theorem jobLaw_of {s : State} (h : s.ring.iface = .live ∧ s.ring.desc = some rings
    ∧ s.flightKind ≠ some .setupRead
    ∧ (s.ring.requestHead < s.ring.requestRingSize ∧ s.ring.requestTail < s.ring.requestRingSize)
    ∧ (s.ring.completionHead < s.ring.completionRingSize
      ∧ s.ring.completionTail < s.ring.completionRingSize)
    ∧ (s.ring.eventHead < s.ring.eventRingSize ∧ s.ring.eventTail < s.ring.eventRingSize)
    ∧ (s.req.jobs.map Job.order).Pairwise (· < ·)
    ∧ (∀ j ∈ s.req.jobs, j.order ≤ s.req.takeOrder) ∧ s.req.jobs.length ≤ 4
    ∧ (s.req.jobs.filter Job.isNextSweep).length ≤ 1
    ∧ (∀ j ∈ s.req.jobs, j.waitingDump.isSome = true → j.isNextSweep = true)
    ∧ (∀ j ∈ s.req.jobs, ∀ w ∈ j.waitsFor, w < j.order)
    ∧ s.sched.jobs.map (fun j => (j.order, j.abandoned))
      = (s.req.jobs.filter Job.isLink).map (fun j => (j.order, j.abandoned))
    ∧ s.req.taken = (s.req.jobs.filter fun j => !j.abandoned).length
    ∧ (∀ j ∈ s.req.jobs, j.abandoned = true → j.isLink = true)
    ∧ s.req.taken + s.ring.completionsUnread ≤ s.ring.completionRingSize - 1) : s.JobLaw := by
  obtain ⟨hi, hd, hf, hr, hc, he, h1, h2, h3, h8, h9, h10, h4, h5, h6, h7⟩ := h
  exact {
    ring := {
      described := fun _ => ⟨rings, hd, by decide, by decide, by decide⟩
      inRequestRing := fun _ => hr
      inCompletionRing := fun _ => hc
      inEventRing := fun _ => he
      loading := ⟨fun e => (by rw [hi] at e; cases e), fun e => absurd e hf⟩ }
    rising := h1
    taken := h2
    four := h3
    oneNextSweep := h8
    waiting := h9
    waitsForEarlier := h10
    queued := h4
    counted := h5
    outside := fun e => by rw [hi] at e; cases e
    onlyLink := h6
    room := fun _ => h7 }

theorem witness_EveryStepKeepsTheJobLaw :
    (ticking working).JobLaw ∧ working.req.jobs.length = 2 ∧ ∃ t, step (ticking working) = .next t :=
  ⟨jobLaw_of (by decide +kernel), by decide +kernel, ticks working⟩

theorem witness_TimeMovesOnlyByTick :
    (Instr.monitorTimeTick.wellFormed = true
      ∧ Runs .monitorTimeTick live (after .monitorTimeTick live))
    ∧ (Instr.powerOnReset.wellFormed = true ∧ Runs .powerOnReset live (after .powerOnReset live))
    ∧ (Instr.start.wellFormed = true
      ∧ Runs .start (asks [4] (inState .stopped 9 live)) (after .start (asks [4] (inState .stopped 9 live)))) :=
  ⟨⟨rfl, runs_of (by decide +kernel)⟩, ⟨rfl, runs_of (by decide +kernel)⟩,
    ⟨rfl, runs_of (by decide +kernel)⟩⟩

theorem witness_TrippedHolds :
    let s := asks [15] (latched .tripped live)
    Instr.forceTrip ≠ .powerOnReset ∧ Instr.forceTrip ≠ .rearmTrip ∧ s.trip.latch = .tripped
    ∧ Runs .forceTrip s (after .forceTrip s) :=
  ⟨by decide, by decide, by decide +kernel, runs_of (by decide +kernel)⟩

/-- A part in GUARD with its guard reading of station 1 on the bus. -/
def guardReading (l : Latch) : State :=
  let x : Transaction := { statusRead 1 .guardPoll with register := 16, purpose := .readingRead 0 0 none }
  latched l (onBus x (watching 100 adopted (some (poll .reading))))

/-- The first VALID guard reading below the limit, and the last member's reading, release the latch. -/
theorem witness_ReleaseOnlyWhenQualified :
    (let s := guardReading .rearmWait
     let c := Instr.responseReceived (StationDevice.ackRead 1759)
     c ≠ .powerOnReset ∧ (∀ b, c ≠ .startCheckTimeout b) ∧ s.trip.latch ≠ .clear
     ∧ Runs c s (after c s) ∧ (after c s).trip.latch = .clear ∧ (after c s).mon.guardActive = true)
    ∧ (let x := { statusRead 3 .sweep with
          register := 25
          purpose := .readingRead 1 1
            (some { channel := 31, generation := 1, quality := some .valid, fault := false }) }
       let s := onBus x (latched .rearmWait (monitoring.setChan 31 (bound 3 1 1 true .normal)))
       let c := Instr.responseReceived (StationDevice.ackRead 1210)
       c ≠ .powerOnReset ∧ (∀ b, c ≠ .startCheckTimeout b) ∧ s.trip.latch ≠ .clear
       ∧ Runs c s (after c s) ∧ (after c s).trip.latch = .clear
       ∧ ((after c s).chan 31).isMember = true) := by
  refine ⟨⟨by decide, (fun b h => by cases h), by decide +kernel, runs_of (by decide +kernel),
      by decide +kernel, by decide +kernel⟩,
    ⟨by decide, (fun b h => by cases h), by decide +kernel, runs_of (by decide +kernel),
      by decide +kernel, by decide +kernel⟩⟩

theorem witness_GenerationMovesOnlyAtDefine :
    let s := asks define (inState .stopped 4 live)
    Instr.defineChannel.wellFormed = true ∧ Runs .defineChannel s (after .defineChannel s)
    ∧ ((after .defineChannel s).chan 5).generation = 1 ∧ (Instr.controlReset 2).wellFormed = true
    ∧ Runs (.controlReset 2) s (after (.controlReset 2) s) :=
  ⟨rfl, runs_of (by decide +kernel), by decide +kernel, rfl, runs_of (by decide +kernel)⟩

/-- The thresholds of 1.11 at their boundaries: 1408, 1168 and 192 with hysteresis, and 1440. -/
theorem witness_ConditionIsJudgedByTheLimits :
    ((∀ x, limits.criticalHigh = some x → (1407 : Int) < max (-32768) (x.toInt - 32))
      ∧ ¬ (∀ x, limits.criticalHigh = some x → (1408 : Int) < max (-32768) (x.toInt - 32)))
    ∧ ((∃ x, limits.high = some x ∧ max (-32768) (x.toInt - 32) < (1169 : Int))
      ∧ ¬ (∃ x, limits.high = some x ∧ max (-32768) (x.toInt - 32) < (1168 : Int)))
    ∧ ((∃ x, limits.low = some x ∧ (191 : Int) < min 32767 (x.toInt + 32))
      ∧ ¬ (∃ x, limits.low = some x ∧ (192 : Int) < min 32767 (x.toInt + 32)))
    ∧ [judge .signed limits .critical 1408, judge .signed limits .critical 1407,
        judge .signed limits .critical 1168, judge .signed limits .critical 192,
        judge .signed limits .critical 191, judge .signed limits .highAlarm 1168,
        judge .signed limits .highAlarm 159, judge .signed limits .lowAlarm 1201,
        judge .signed limits .pending 1200, judge .signed limits .stale 1440]
      = [.critical, .highAlarm, .normal, .normal, .lowAlarm, .normal, .lowAlarm, .highAlarm, .normal,
        .critical] := by
  refine ⟨⟨?_, ?_⟩, ⟨⟨1200, rfl, by decide⟩, ?_⟩, ⟨⟨160, rfl, by decide⟩, ?_⟩, by decide +kernel⟩
  · intro x h; cases h; decide
  · intro h; exact absurd (h 1440 rfl) (by decide)
  · rintro ⟨x, h, k⟩; cases h; exact absurd k (by decide)
  · rintro ⟨x, h, k⟩; cases h; exact absurd k (by decide)

theorem witness_ReadingIsTakenOrDropped :
    (inState .stopped 0 monitoring).mon.state ≠ .monitoring ∧ (monitoring.chan 30).binding = none
    ∧ (monitoring.chan 31).generation ≠ 2
    ∧ ((monitoring.setChan 31 (bound 3 1 1 true .unreachable)).chan 31).condition = .unreachable
    ∧ (monitoring.mon.state = .monitoring
      ∧ (monitoring.chan 31).binding = (bound 3 1 1 false .normal).binding
      ∧ (monitoring.chan 31).generation = 1 ∧ (monitoring.chan 31).condition ≠ .unreachable) := by
  decide +kernel

theorem witness_StationChangeReachesItsChannels :
    ((monitoring.chan 31).onStation 3 = true)
    ∧ ∀ n < 128, (monitoring.chan n).onStation 3 = true → (monitoring.chan n).isMember = false := by
  decide +kernel

/-- Station 3 with two trip members, one NORMAL and one already UNREACHABLE: at its loss the notice, the
cause MEMBER_FAULT by channel 30 and the notice TRIPPED, in this order; at its adoption the mark of a
member goes; while the line is FAULTED no cause. -/
theorem witness_StationChangeReachesItsChannels_members :
    let s := (monitoring.setChan 30 (bound 3 1 0 true .normal)).setChan 31 (bound 3 1 1 true .unreachable)
    let sources := fun t : State => t.ring.eventWrites.map fun w => w.record.source
    ([30, 31].all fun n => (s.chan n).onStation 3 && (s.chan n).isMember)
    ∧ (let t := s.channelsOfStation 3 .silent
       t.trip.latch = .tripped ∧ sources t = [.channel 30, .trip]
       ∧ t.trip.cause.map (fun c => (c.kind, c.source, c.count)) = some (.memberFault, 30, 1))
    ∧ (let m := { s with trip := { s.trip with marks := 3 <<< 30 } }
       let t := m.channelsOfStation 3 .adopted
       [(t.chan 30).condition, (t.chan 31).condition] = [.pending, .pending]
       ∧ t.trip.latch = .clear ∧ t.trip.marks = 0 ∧ sources t = [])
    ∧ ((faulted 0 s).channelsOfStation 3 .absent).trip.latch = .clear := by decide +kernel

/-- A ring with 14 and with 15 unread records, and a backlog with and without the source's entry. -/
theorem witness_NoticesArriveAndDrain :
    let r : Nat → RingEngine := fun n => { live.ring with eventTail := n }
    (live.evt.backlog = [] ∧ (r 14).eventsUnread < (r 14).eventRingSize - 1
      ∧ ¬ (r 15).eventsUnread < (r 15).eventRingSize - 1)
    ∧ (∃ e ∈ held.evt.backlog, e.source = .channel 7)
    ∧ (¬ (∃ e ∈ held.evt.backlog, e.source = .trip) ∧ held.evt.backlog ≠ []) := by
  refine ⟨by decide +kernel, ⟨entry (.channel 7), by decide, rfl⟩, ?_, by decide⟩
  simp [held, entry]

/-- R29 at its boundaries: each kind of notice, urgent and not. -/
theorem witness_NoticesArriveAndDrain_urgent :
    let n := fun src before after urgentClass =>
      ({ source := src, generation := 0, before := before, after := after, detail := 0, value := 0
         time := 0, classUrgent := urgentClass } : Notice).urgent
    [n (.channel 0) 4 5 false, n (.channel 127) 5 4 true, n (.station 1) 2 3 false,
      n (.station 12) 3 4 false, n .trip 2 0 false, n .link 2 3 false].all id
    ∧ [n (.channel 0) 5 4 false, n (.station 1) 3 3 true, n (.station 12) 4 2 false,
      n .link 3 2 false, n .link 1 3 false, n .link 0 2 false].all (!·)
    ∧ (live.channelNotice 31 .normal (bound 3 1 1 false .critical)).after = 5 := by decide +kernel

/-- The drain with room for one record: slot 14 of 16 is taken, and the second entry is held. -/
theorem witness_NoticesArriveAndDrain_room :
    let s : State := { live with evt := held.evt, ring := { live.ring with eventTail := 14 } }
    s.canPost = true ∧ (s.post (entry (.channel 7))).canPost = false
    ∧ s.drain.evt.backlog = [entry .link]
    ∧ s.drain.ring.eventWrites.map (fun w => (w.slot, w.record.source)) = [(14, .channel 7)] := by
  decide +kernel

theorem witness_CauseActsByTheLatch :
    live.trip.latch = .clear ∧ (latched .tripped live).trip.latch = .tripped
    ∧ (latched .rearmWait live).trip.latch = .rearmWait := by decide +kernel

theorem witness_MemberReportsAndTheReleaseTest :
    (127 < 128 ∧ ReportKind.change = .change ∧ ReportKind.evaluation ≠ .change)
    ∧ (let s := latched .rearmWait monitoring
       s.trip.latch = .rearmWait ∧ s.mon.lineFaulted = false
       ∧ (s.mon.guardActive = true → s.trip.guardQualified = true)
       ∧ ∀ n < 128, (s.chan n).isMember = false)
    ∧ (let m := latched .rearmWait (monitoring.setChan 31 (bound 3 1 1 true .normal))
       let s : State := { m with trip := { m.trip with marks := BitVec.twoPow 128 31 } }
       s.trip.latch = .rearmWait ∧ s.releasePasses = true ∧ (s.chan 31).isMember = true)
    ∧ ¬ (latched .tripped monitoring).trip.latch = .rearmWait := by decide +kernel

theorem witness_InterruptMessageIsSentOnce :
    ((0x1F01 : BitVec 32).getLsbD 1 = false ∧ (0x1F01 : BitVec 32).getLsbD 0 = true
      ∧ live.ring.iface = .live)
    ∧ (let s : State := { live with port := { live.port with
          intEnable := { Causes.none with fault := true } } }
       (s.raise { Causes.none with fault := true }).pcie.messagesSent = 1
       ∧ ((s.raise { Causes.none with fault := true }).raise { Causes.none with fault := true }).pcie.messagesSent = 1
       ∧ (s.raise { Causes.none with event := true }).pcie.messagesSent = 0) := by decide +kernel

theorem witness_PlanFollowsTheChannelTable :
    3 < 4 ∧ (monitoring.derivedPlan 3).fns = 2 ∧ (monitoring.derivedPlan 3).attn = 0 := by decide +kernel

/-- An ACK to a READ of 27 and of 28 bits; a check with one bit changed; a field that is neither. -/
theorem witness_ResponsesAreJudgedAsSent :
    let read := StationDevice.ackRead 0x8001
    (List.replicate 11 true).length < 12
    ∧ read.length = 28 ∧ (read.take 27).length < 28
    ∧ (read.take 27).take 4 = [true, false, true, false] ∧ judgeResponse true (read.take 27) = .corrupt
    ∧ judgeResponse true (read ++ [true]) = .goodAck 0x8001
    ∧ judgeResponse true (read.set 27 (!read[27])) = .corrupt
    ∧ judgeResponse true (StationDevice.nak.take 11) = .corrupt
    ∧ (true :: read).take 4 ≠ [true, false, true, false]
    ∧ (true :: read).take 4 ≠ [false, true, false, true] := by decide +kernel

/-- The block of `test_loading` with its fields moved to fail one check each. -/
theorem witness_SetupChecksInOrder :
    let at_ : Nat → Nat → BitVec 1024 := fun byte n => BitVec.ofNat 1024 n <<< (8 * byte)
    SetupBlock.description setupBlock = rings ∧ SetupBlock.check setupBlock = none
    ∧ (SetupBlock.description (setupBlock + at_ 0x1A 9)).eventExp = 13
    ∧ SetupBlock.check (setupBlock + at_ 0x1A 9) = some ⟨.ringSize, .event, 0⟩
    ∧ SetupBlock.check (setupBlock - at_ 0x18 1 - at_ 0x19 1) = some ⟨.ringSize, .request, 0⟩
    ∧ SetupBlock.check (setupBlock - at_ 0x19 1 - at_ 0x1A 1) = some ⟨.ringSize, .completion, 0⟩
    ∧ SetupBlock.check (setupBlock + at_ 0x00 1 + at_ 0x08 32) = some ⟨.ringAlign, .request, 0⟩
    ∧ SetupBlock.check (setupBlock + at_ 0x10 63) = some ⟨.ringAlign, .event, 0⟩
    ∧ SetupBlock.check (setupBlock + at_ 0x1A 8) = none
    ∧ SetupBlock.check (setupBlock + at_ 0x08 32) = some ⟨.ringAlign, .completion, 0⟩
    ∧ SetupBlock.check (setupBlock + at_ 0x28 4096) = some ⟨.windowForm, .setup, 0⟩
    ∧ SetupBlock.check (setupBlock + at_ 0x60 1) = some ⟨.windowForm, .setup, 2⟩
    ∧ SetupBlock.check (setupBlock - at_ 0x30 1) = some ⟨.ringWindow, .request, 0⟩
    ∧ SetupBlock.check (setupBlock - at_ 0x30 2) = some ⟨.ringWindow, .completion, 0⟩
    ∧ SetupBlock.check (setupBlock + at_ 0x10 0x100000000) = some ⟨.ringWindow, .event, 0⟩
    ∧ SetupBlock.check (setupBlock - at_ 0x1C 4) = some ⟨.moderation, .completion, 0⟩
    ∧ SetupBlock.check (setupBlock - at_ 0x1E 4) = some ⟨.moderation, .event, 0⟩ := by decide +kernel

theorem witness_RegisterPortReadsAndWrites :
    (31 < 32 ∧ (3 = 1 ∨ 3 = 2 ∨ 3 = 3 ∨ (3 = 4 ∧ (31 = 4 ∨ 31 = 28))))
    ∧ (28 < 32 ∧ (4 = 1 ∨ 4 = 2 ∨ 4 = 3 ∨ (4 = 4 ∧ (28 = 4 ∨ 28 = 28))))
    ∧ live.ring.requestTail < 65536 ∧ live.ring.completionHead < 65536 ∧ live.ring.eventHead < 65536
    ∧ live.port.fault.index < 4096 ∧ (7 < 8 ∧ 3 + 1 ≤ 4)
    ∧ (2 : BitVec 32).getLsbD 1 = true
    ∧ (let f : FaultRegister := { code := .ringBusError, struct := .event, index := 4095 }
       ({ live with port := { live.port with fault := f } } : State).readRegister 0x1C
         = BitVec.ofNat 32 (f.code.code + 16 * f.struct.code + 65536 * 4095)) := by decide +kernel

/-- The interface in each state, with and without something left to drain. -/
theorem witness_EnableBitMovesTheInterface :
    let i := fun x : InterfaceState => ({ live with ring := { live.ring with iface := x } } : State)
    ((1 : BitVec 32).getLsbD 0 = true ∧ (1 : BitVec 32).getLsbD 1 = false
      ∧ Causes.ofBits (1 : BitVec 32) 8 = live.port.intEnable ∧ (i .off).ring.iface = .off
      ∧ (i .halted).ring.iface ≠ .off)
    ∧ ((0 : BitVec 32).getLsbD 0 = false ∧ (0 : BitVec 32).getLsbD 1 = false
      ∧ Causes.ofBits (0 : BitVec 32) 8 = live.port.intEnable ∧ (i .loading).ring.iface = .loading)
    ∧ (working.ring.iface = .live ∧ working.req.jobs ≠ [])
    ∧ ((i .draining).ring.iface = .draining ∧ (i .draining).req.jobs = []
      ∧ (i .draining).ring.completionWrites = [] ∧ (i .draining).ring.eventWrites = []
      ∧ (i .draining).mem.inFlight = none ∧ (i .draining).port.enable = true) := by decide +kernel

/-- Index values on both sides of each boundary. -/
theorem witness_IndexWritesAreChecked :
    let s : State := { live with ring := { live.ring with eventTail := 12, eventHead := 5, completionTail := 3 } }
    (live.ring.requestRingSize ≤ (16 : BitVec 32).toNat % 65536
      ∧ (15 : BitVec 32).toNat % 65536 < live.ring.requestRingSize
      ∧ (15 : BitVec 32).toNat % 65536 ≠ live.ring.requestHead
      ∧ (0x10000 : BitVec 32).toNat % 65536 = live.ring.requestHead)
    ∧ (after (.cplHeadWrite 3) s).ring.completionHead = 3
    ∧ (after (.cplHeadWrite 4) s).port.intCause.index = true
    ∧ (after (.evtHeadWrite 12) s).ring.eventHead = 12
    ∧ (after (.evtHeadWrite 13) s).port.intCause.index = true
    ∧ (after (.evtHeadWrite 4) s).port.intCause.index = true
    ∧ State.reset.ring.iface ≠ .live ∧ State.reset.ring.iface ≠ .draining := by decide +kernel

/-- Fields of the last window of a block, at their places in 10.2. -/
theorem witness_SetupReadEndsLoading_fields :
    let b : SetupBlock := setupBlock + (0x7 <<< (8 * 0x68)) + (0x9 <<< (8 * 0x70)) + (0xFE <<< (8 * 0x78))
    SetupBlock.window b 3 = { base := 7, length := 9, permission := { read := false, write := true } }
    ∧ (SetupBlock.windows b)[3] = SetupBlock.window b 3
    ∧ (SetupBlock.description (b + (0x84 <<< (8 * 0x18)))).requestExp = 0x88 := by decide +kernel

theorem witness_SetupReadEndsLoading :
    let s : State := { inFlight .setupRead true live with ring := { live.ring with iface := .loading } }
    s.flightKind = some .setupRead ∧ s.port.enable = true ∧ SetupBlock.check setupBlock = none
    ∧ (SetupBlock.check 0).isSome = true
    ∧ ({ s with port := { s.port with enable := false } } : State).port.enable = false := by decide +kernel

/-- Each place of the arbiter with something to do, and the access inside the window. -/
theorem witness_MemoryGrantsInOrder :
    let c : CompletionWrite := { slot := 15, lap := true, record := Completion.plain 1 5 .ok }
    let e : EventWrite := { slot := 15, lap := true, record := entry .trip }
    let done : State := { live with ring := { live.ring with requestTail := 0 } }
    let d := withJob 1 .dump (.dump (dump 1)) none done
    let s : State := { d with req := { d.req with dumpQueue := [1] } }
    working.mem.inFlight ≠ none ∧ ¬ State.reset.ring.iface = .live
    ∧ (live.ring.iface = .live ∧ live.mem.inFlight = none ∧ live.ring.desc = some rings)
    ∧ writable live.mem.windows (0x2000 + 16 * c.slot) 16 = true
    ∧ writable live.mem.windows (0x3000 + 16 * e.slot) 16 = true
    ∧ (live.ring.completionWrites = [] ∧ live.ring.eventWrites = [] ∧ live.ring.requestTail ≠ live.ring.requestHead
      ∧ live.req.staged = none ∧ readable live.mem.windows 0x1000 32 = true)
    ∧ (s.ring.requestTail = s.ring.requestHead ∧ s.req.dumpQueue = [1] ∧ (s.dumpOf 1).map Prod.snd = some (dump 1)
      ∧ writable s.mem.windows 0x4010 16 = true) ∧ done.req.dumpQueue = [] := by decide +kernel

theorem witness_DumpRecordsAreCapturedAndCounted :
    let s := fun k => inFlight (.dumpWrite 1) true (withJob 1 .dump (.dump (dump k)) none live)
    (dump 1).subject = .channels ∧ (dump 1).nextSweep = false ∧ (dump 1).first + (dump 1).written < 128
    ∧ ((s 0).mem.inFlight.map Access.kind = some (.dumpWrite 1) ∧ ((s 0).dumpOf 1).map Prod.snd = some (dump 0)
      ∧ (∀ k ∈ (s 0).req.jobs, k.kind ≠ .sync) ∧ (s 0).mem.inFlight.map Access.sendable = some true
      ∧ (dump 0).written + 1 < 2 ∧ 2 ≤ (dump 1).written + 1)
    ∧ (after .pcieLinkDown (s 1)).pcie.linkUp = false := by decide +kernel

/-- The bytes of a channel record, LATEST and captured, of a station record and of the end of the
summary, written out from 10.6. -/
theorem witness_DumpRecordsAreCapturedAndCounted_bytes :
    let d := { dump 0 with first := 31, count := 1 }
    let c := bound 12 3 7 true .unreachable
    let s := { monitoring with req := { monitoring.req with capture := [c] } }
    (∀ b ∈ (s.chan 31).binding, b.loc.station ≤ 12 ∧ b.loc.fn ≤ 3 ∧ b.loc.point ≤ 7)
    ∧ s.dumpRecord d
      = [31, 1, 0x02, 0x31, 0x13, 1, 0x9C, 0x04, 0, 0, 0, 0, 0x9C, 0x04, 0x9C, 0x04]
    ∧ s.req.capture[0]? = some c
    ∧ (∀ b ∈ c.binding, b.loc.station ≤ 12 ∧ b.loc.fn ≤ 3 ∧ b.loc.point ≤ 7)
    ∧ s.dumpRecord { d with nextSweep := true }
      = [31, 1, 0x18, 0x39, 0x3C, 7, 0x9C, 0x04, 0, 0, 0, 0, 0x9C, 0x04, 0x9C, 0x04]
    ∧ s.dumpRecord { d with subject := .stations, written := 2 }
      = [0x73, 0x02, 2, 3, 0x42, 2, 3, 0x42, 0x01, 0x04, 0, 0, 0, 0, 0, 0]
    ∧ (latched .tripped (faulted 3 monitoring)).dumpRecord { d with subject := .summary }
      = [0x13, 0x55, 1, 20, 2, 0, 0, 0, 0x88, 0x13, 0, 0, 0x70, 0x17, 0, 0, 5] ++ List.replicate 47 0 := by
  decide +kernel

theorem witness_RecordsAreStagedAndModerated :
    (inFlight (.requestFetch 0 false) true live).flightKind = some (.requestFetch 0 false)
    ∧ (inFlight (.requestFetch 0 true) true live).flightKind = some (.requestFetch 0 true)
    ∧ (inFlight (.completionWrite 3) true live).mem.inFlight.map Access.sendable = some true
    ∧ live.ring.desc = some rings
    ∧ rings.eventCount ≤ 3 + 1 ∧ ¬ (rings.eventCount ≤ 2 + 1 ∨ rings.eventDelay = 0)
    ∧ (0 < 2 ∧ rings.eventDelay ≤ ((10 : Time) - 0).toNat ∧ ¬ rings.eventDelay ≤ ((9 : Time) - 0).toNat) := by
  decide +kernel

theorem witness_RingBusErrorHalts :
    working.JobLaw ∧ working.ring.iface = .live
    ∧ working.mem.inFlight.map (fun a => (a.kind, a.sendable)) = some (AccessKind.eventWrite 10 false, false)
    ∧ ((inFlight (.requestFetch 3 false) true working).JobLaw
      ∧ (inFlight (.requestFetch 3 false) true working).flightKind = some (.requestFetch 3 false))
    ∧ (inFlight (.completionWrite 3) false working).JobLaw :=
  ⟨jobLaw_of (by decide +kernel), by decide +kernel, by decide +kernel,
    ⟨jobLaw_of (by decide +kernel), by decide +kernel⟩, jobLaw_of (by decide +kernel)⟩

/-- A running job with its transaction on the bus and one behind it: the running job alone stays,
abandoned. A RESCAN between two transactions leaves at once, and its hold with it. -/
theorem witness_RingBusErrorHalts_jobs :
    let s := inFlight (.requestFetch 3 false) true (onBus (statusRead 3 .job) (withJob 2 .freshRead
      (.link 1) (some (fresh .convert false)) (withJob 1 .freshRead (.link 1) (some (fresh .poll true))
        monitoring)))
    let r := inFlight (.requestFetch 3 false) true (withRescan 2 (some (Probe.start 3))
      (monitoring.setStn 3 { adopted with holder := some .job }))
    s.JobLaw ∧ s.sched.jobs.map LinkJob.order = [1, 2]
    ∧ (after .ringBusError s).sched.jobs.map (fun j => (j.order, j.abandoned)) = [(1, true)]
    ∧ (after .ringBusError s).req.jobs.map (fun j => (j.order, j.abandoned)) = [(1, true)]
    ∧ r.JobLaw ∧ (r.stn 3).holder = some .job
    ∧ (after .ringBusError r).req.jobs = [] ∧ ((after .ringBusError r).stn 3).holder = none :=
  ⟨jobLaw_of (by decide +kernel), by decide +kernel, by decide +kernel, by decide +kernel,
    jobLaw_of (by decide +kernel), by decide +kernel, by decide +kernel, by decide +kernel⟩

/-- The tests of `Accepts` on a staged request of these bytes. -/
theorem accepts_of {s : State} {bs : List Nat} {k : RequestKind}
    (h : Request.kind (record bs) = some k ∧ (asks bs s).canTake (record bs) = true
      ∧ Request.fieldsOk (record bs) k = true ∧ Request.permitted (record bs) k s.mon.state = true
      ∧ Request.channelOk (record bs) k = true) : (asks bs s).Accepts (record bs) k :=
  { staged := rfl, kind := h.1, taken := h.2.1, fields := h.2.2.1, permitted := h.2.2.2.1
    channel := h.2.2.2.2 }

theorem witness_NopCompletesAtItsTake :
    let s := asks [1, 0, 6] live
    s.req.staged.map Staged.record = some (record [1, 0, 6]) ∧ Request.kind (record [1, 0, 6]) = some .nop
    ∧ Request.fieldsOk (record [1, 0, 6]) .nop = true ∧ s.ring.iface = .live
    ∧ s.ring.requestTail ≠ s.ring.requestHead ∧ s.credit = true := by decide +kernel

/-- Nothing staged; credit used up; four slots occupied; and a refusal at each of checks 1 to 4. -/
theorem witness_RequestsAreTakenOrRefusedInOrder :
    live.req.staged = none
    ∧ (let s := asks [1] { live with req := { live.req with taken := 15 } }
       s.canTake (record [1]) = false
       ∧ s.req.taken + (s.ring.completionTail + s.ring.completionRingSize - s.ring.completionHead)
          % s.ring.completionRingSize = s.ring.completionRingSize - 1)
    ∧ (let j := fun n => withJob n .dump (.dump (dump 0)) none
       let s := asks [2] (j 4 (j 3 (j 2 (j 1 live))))
       s.req.jobs.length = 4 ∧ s.canTake (record [2]) = false ∧ s.canTake (record [1]) = true)
    ∧ (Request.kind (record [16]) = none ∧ (asks [16] live).canTake (record [16]) = true)
    ∧ (Request.kind (record [9, 0, 0, 0, 127, 2]) = some .readChannel
      ∧ (asks [9, 0, 0, 0, 127, 2] live).canTake (record [9, 0, 0, 0, 127, 2]) = true
      ∧ Request.fieldsOk (record [9, 0, 0, 0, 127, 2]) .readChannel = false
      ∧ (byteAt (record [9, 0, 0, 0, 127, 2]) 4).toNat = 127)
    ∧ (Request.fieldsOk (record [9, 0, 0, 0, 127]) .readChannel = true
      ∧ Request.permitted (record [9, 0, 0, 0, 127]) .readChannel live.mon.state = false)
    ∧ (Request.fieldsOk (record [9, 0, 0, 0, 128]) .readChannel = true
      ∧ Request.permitted (record [9, 0, 0, 0, 128]) .readChannel (inState .stopped 0 live).mon.state = true
      ∧ 128 ≤ (byteAt (record [9, 0, 0, 0, 128]) 4).toNat) := by decide +kernel

/-- R187: for each kind, a record that passes check 2 at the ends of its fields. -/
theorem witness_RequestsAreTakenOrRefusedInOrder_fields :
    let ff := List.replicate 28 255
    let ok := fun bs k => Request.fieldsOk (record bs) k = true
    ok [1, 0, 255, 255] .nop ∧ ok ([3, 0] ++ ff.take 11 ++ [15, 1]) .configure
    ∧ ok ([6, 0] ++ ff.take 6 ++ [1, 1, 1, 15] ++ ff.take 10) .defineChannel
    ∧ ok ([8, 0] ++ ff.take 3 ++ [0, 0, 0, 0, 0, 0, 15] ++ ff.take 10) .setLimits
    ∧ ok [7, 0, 255, 255, 255] .retireChannel ∧ ok [9, 0, 255, 255, 255, 1] .readChannel
    ∧ ok [11, 0, 255, 255, 255, 15] .rescan ∧ ok [12, 0, 255, 255, 255] .acceptStation
    ∧ ok ([13, 0, 255, 255, 1, 1] ++ ff.take 10) .dump
    ∧ ok ([13, 0, 255, 255, 3, 0, 0, 0] ++ ff.take 8) .dump := by decide +kernel

/-- R187: records that fail check 2 by one bit. -/
theorem witness_RequestsAreTakenOrRefusedInOrder_badFields :
    let bad := fun bs k => Request.fieldsOk (record bs) k = false
    bad [1, 1] .nop ∧ bad (2 :: List.replicate 30 0 ++ [1]) .sync
    ∧ bad ([3, 0] ++ List.replicate 11 0 ++ [16]) .configure
    ∧ bad ([3, 0] ++ List.replicate 12 0 ++ [2]) .configure
    ∧ bad ([6, 0] ++ List.replicate 6 0 ++ [2]) .defineChannel
    ∧ bad ([6, 0] ++ List.replicate 9 0 ++ [16]) .defineChannel
    ∧ bad ([8, 0] ++ List.replicate 3 0 ++ [1]) .setLimits
    ∧ bad ([8, 0] ++ List.replicate 8 0 ++ [1]) .setLimits
    ∧ bad [9, 0, 0, 0, 0, 2] .readChannel ∧ bad [11, 0, 0, 0, 0, 16] .rescan
    ∧ bad [13, 0, 0, 0, 0] .dump ∧ bad [13, 0, 0, 0, 4] .dump ∧ bad [13, 0, 0, 0, 1, 2] .dump
    ∧ bad [13, 0, 0, 0, 2, 0, 1] .dump ∧ bad [13, 0, 0, 0, 3, 0, 0, 1] .dump := by decide +kernel

theorem witness_SyncWaitsForEarlierJobs :
    (asks [2] live).Accepts (record [2]) .sync ∧ (asks [2] live).req.jobs = []
    ∧ (asks [2] working).Accepts (record [2]) .sync
    ∧ ((working.req.jobs.filter fun j => !j.abandoned).map Job.order) = [1, 2]
    ∧ working.req.jobs.length ≤ 4 ∧ (working.req.jobs.map Job.order).Pairwise (· < ·) :=
  ⟨accepts_of (by decide +kernel), by decide +kernel, accepts_of (by decide +kernel),
    by decide +kernel, by decide +kernel, by decide +kernel⟩

/-- Job 1 ends: the SYNC that waits for it alone completes, and so the one that waits for both; the
SYNC that waits for job 2 stays. -/
theorem witness_SyncWaitsForEarlierJobs_end :
    let fresh_ := withJob 1 .freshRead (.link 1) (some (fresh .poll true)) monitoring
    let s := withSync 5 [1, 3] (withSync 3 [1] (withJob 2 .dump (.dump (dump 0)) none fresh_))
    let stays := withSync 4 [1, 2] (withJob 2 .dump (.dump (dump 0)) none fresh_)
    (s.req.jobs.length ≤ 4 ∧ (s.req.jobs.map Job.order).Pairwise (· < ·)
      ∧ ∀ k ∈ s.req.jobs, ∀ w ∈ k.waitsFor, w < k.order)
    ∧ (s.endJob 1 (Completion.plain 10 1 .ok)).req.jobs.map Job.order = [2]
    ∧ (stays.endJob 1 (Completion.plain 10 1 .ok)).req.jobs.map Job.work = [.dump (dump 0), .sync [2]] := by
  decide +kernel

/-- The least values in range of a CONFIGURE: period 10, limit 50, interval 100, grace 0, address 1. -/
def configure : List Nat := [3, 0, 7, 0, 10, 0, 50, 0, 100, 0, 0, 0, 1, 0, 1]

theorem witness_ConfigureReplacesAndEndsGuard :
    (asks configure (inState .stopped 0 live)).Accepts (record configure) .configure
    ∧ (Request.params (record configure)).inRange = true
    ∧ (let low := [3, 0, 7, 0, 10, 0, 49, 0, 100, 0, 0, 0, 1, 0, 1]
       (asks low (inState .stopped 0 live)).Accepts (record low) .configure
       ∧ (Request.params (record low)).inRange = false)
    ∧ ((asks configure live).Accepts (record configure) .configure ∧ live.mon.state = .guarding) :=
  ⟨accepts_of (by decide +kernel), by decide +kernel,
    ⟨accepts_of (by decide +kernel), by decide +kernel⟩, accepts_of (by decide +kernel), by decide +kernel⟩

/-- In GUARD: values out of range leave it; else each probe of guard's own loses its hold, another
activity's stays, and a change of attention use derives the plans afresh. -/
theorem witness_ConfigureReplacesAndEndsGuard_guard :
    let low := [3, 0, 7, 0, 10, 0, 49, 0, 100, 0, 0, 0, 1, 0, 1]
    let off := configure.take 14
    let held := fun stage reprobe recovery act => ({ live with mon := { live.mon with
      guardStage := some stage, guardReprobe := reprobe, recovery := recovery } } : State).setStn 1
        { adopted with holder := some act }
    let w : ProbeWalk := ProbeWalk.at_ (Probe.start 1)
    let states := [held (.startup true (some (Probe.start 1))) none none .guardStartup,
      held .watching (some w) none .guardReprobe,
      held .lineRecovery none (some { stage := .probing w, reason := .lineStuck }) .recovery]
    ((asks low live).Accepts (record low) .configure ∧ ¬ 50 ≤ (halfAt (record low) 6).toNat)
    ∧ (after .configure (asks low live)).mon = live.mon
    ∧ (∀ s ∈ states, (asks configure s).Accepts (record configure) .configure
        ∧ s.mon.state = .guarding)
    ∧ (states.map fun s => ((after .configure (asks configure s)).stn 1).holder) = [none, none, none]
    ∧ (after .configure (asks configure (held .watching (some w) none .job))).stn 1
      = { adopted with holder := some .job }
    ∧ (states.map fun s => ((after .configure (asks off s)).stn 1).plan) = List.replicate 3 ⟨0, 0⟩
    ∧ (after .configure (asks configure (onBus (statusRead 1 .guardPoll) live))).bus.txn
      = some { statusRead 1 .guardPoll with orphan := true }
    ∧ (after .configure (asks configure (onBus (statusRead 1 .job) live))).bus.txn
      = some (statusRead 1 .job) := by
  refine ⟨⟨accepts_of (by decide +kernel), by decide +kernel⟩, by decide +kernel, ?_, by decide +kernel,
    by decide +kernel, by decide +kernel, by decide +kernel, by decide +kernel⟩
  intro s hs
  simp only [List.mem_cons, List.not_mem_nil, or_false] at hs
  rcases hs with rfl | rfl | rfl <;> exact ⟨accepts_of (by decide +kernel), by decide +kernel⟩

theorem witness_StartBeginsMonitoring :
    let s := inState .stopped 0 live
    let stuck : State := { s with bus := { s.bus with stuckReported := true } }
    ((asks [4] s).Accepts (record [4]) .start ∧ s.bus.stuckReported = false)
    ∧ (asks [4] stuck).Accepts (record [4]) .start ∧ stuck.bus.stuckReported = true :=
  ⟨⟨accepts_of (by decide +kernel), by decide +kernel⟩, accepts_of (by decide +kernel), by decide +kernel⟩

/-- A FRESH_READ in the queue, a NEXT_SWEEP dump that waits, and a dump that is written. -/
def stopping : State :=
  withJob 3 .dump (.dump (dump 0)) none (withJob 2 .dump (.dump (nextSweep false)) none
    (withJob 1 .freshRead (.link 1) (some (fresh .poll true)) (monitoring.setStn 4 adopted)))

theorem witness_StopEndsTheWork :
    (asks [5] stopping).Accepts (record [5]) .stop ∧ (asks [5] stopping).JobLaw
    ∧ (asks [5] stopping).req.jobs.map (fun j => (j.isLink, j.waitingDump.isSome))
      = [(true, false), (false, true), (false, false)] :=
  ⟨accepts_of (by decide +kernel), jobLaw_of (by decide +kernel), by decide +kernel⟩

theorem witness_EntryToRecovering :
    stopping.JobLaw ∧ stopping.req.jobs.map (fun j => j.waitingDump.isSome) = [false, true, false]
    ∧ (stopping.stn 3).state = .adopted ∧ (stopping.stn 1).state ≠ .adopted
    ∧ stopping.sched.jobs.map (fun j => (j.order, j.abandoned)) = [(1, false)]
    ∧ stopping.mon.guardActive = false ∧ live.mon.guardActive = true
    ∧ (stopping.chan 31).onStation 3 = true ∧ (stopping.chan 31).condition ≠ .unreachable :=
  ⟨jobLaw_of (by decide +kernel), by decide +kernel, by decide +kernel, by decide +kernel,
    by decide +kernel, by decide +kernel, by decide +kernel, by decide +kernel, by decide +kernel⟩

/-- R5 at its boundaries, through what it says of a pair of enabled limits: none enabled, limits one
apart, equal limits, one order for both formats and one for SIGNED alone, hysteresis 4095 and 4096. -/
theorem witness_DefineChannelBinds_limits :
    let l : Option Count → Option Count → BitVec 16 → Limits := fun low criticalHigh h =>
      { criticalLow := none, low := low, high := none, criticalHigh := criticalHigh, hysteresis := h }
    (l none none 4095).valid .signed = true ∧ (l none none 4096).valid .signed = false
    ∧ (l (some 7) (some 8) 0).valid .unsigned = true ∧ (l (some 8) (some 8) 0).valid .signed = false
    ∧ (l (some 0xFFFF) (some 0) 0).valid .signed = true
    ∧ (l (some 0xFFFF) (some 0) 0).valid .unsigned = false
    ∧ (∀ f : Format, ¬ f.value 8 < f.value 8) ∧ Format.signed.value 0xFFFF < Format.signed.value 0 := by
  refine ⟨by decide +kernel, by decide +kernel, by decide +kernel, by decide +kernel,
    by decide +kernel, by decide +kernel, fun f => by cases f <;> decide, by decide⟩

/-- Each check of DEFINE_CHANNEL, at the ends of the ranges. -/
theorem witness_DefineChannelBinds :
    let s := (inState .stopped 4 live).setStn 3 adopted
    let on := fun station fn point => [6, 0, 1, 0, 5, station, fn, point]
    let b := fun station fn point => Request.binding (record (on station fn point))
    (asks define s).Accepts (record define) .defineChannel
    ∧ (asks define (s.setChan 5 (bound 2 0 0 false .normal))).Accepts (record define) .defineChannel
    ∧ ((s.setChan 5 (bound 2 0 0 false .normal)).chan 5).binding ≠ none
    ∧ ((asks (on 13 0 0) s).Accepts (record (on 13 0 0)) .defineChannel ∧ (b 13 0 0).loc.station = 13)
    ∧ ((asks (on 3 1 4) s).Accepts (record (on 3 1 4)) .defineChannel
      ∧ (s.stn 3).hasPoint 1 4 = false ∧ (s.stn 3).hasPoint 1 3 = true)
    ∧ (((s.setChan 6 (bound 3 1 2 false .normal)).chan 6).loc = some (Request.binding (record define)).loc)
    ∧ (let r := define.take 20 ++ [160, 4]
       (asks r s).Accepts (record r) .defineChannel
       ∧ (Request.limits (record r)).valid .signed = false)
    ∧ (Request.limits (record define)).valid .signed = true ∧ (s.chan 5).binding = none := by
  refine ⟨accepts_of ?_, accepts_of ?_, ?_, ⟨accepts_of ?_, ?_⟩, ⟨accepts_of ?_, ?_⟩, ?_,
    ⟨accepts_of ?_, ?_⟩, ?_, ?_⟩ <;> decide +kernel

theorem witness_RetireChannelUnbinds :
    let r := [7, 0, 0, 0, 31]
    ((asks r (inState .stopped 4 live)).Accepts (record r) .retireChannel
      ∧ ((inState .stopped 4 live).chan 31).binding = none)
    ∧ (let s := latched .rearmWait (monitoring.setChan 31 (bound 3 1 1 true .critical))
       (asks r s).Accepts (record r) .retireChannel ∧ (s.chan 31).isMember = true
       ∧ (after .retireChannel (asks r s)).trip.latch = .clear)
    ∧ (asks r monitoring).Accepts (record r) .retireChannel
    ∧ (monitoring.chan 31).binding.map (fun b => b.loc.station) = some 3 := by
  refine ⟨⟨accepts_of ?_, ?_⟩, ⟨accepts_of ?_, ?_, ?_⟩, accepts_of ?_, ?_⟩ <;> decide +kernel

theorem witness_SetLimitsJudgesAgain :
    let r := [8, 0, 0, 0, 31, 0, 0, 0, 0, 0, 0, 14, 32, 0, 0, 0, 160, 0, 190, 0, 160, 5]
    let bad := [8, 0, 0, 0, 31, 0, 0, 0, 0, 0, 0, 0, 0, 16]
    ((asks r (inState .stopped 4 live)).Accepts (record r) .setLimits
      ∧ ((inState .stopped 4 live).chan 31).binding = none)
    ∧ ((asks bad monitoring).Accepts (record bad) .setLimits
      ∧ (Request.limits (record bad)).valid .signed = false)
    ∧ ((asks r (inState .stopped 4 monitoring)).Accepts (record r) .setLimits
      ∧ (Request.limits (record r)).valid .signed = true)
    ∧ ((asks r monitoring).Accepts (record r) .setLimits ∧ monitoring.mon.state = .monitoring
      ∧ (monitoring.chan 31).condition = .normal
      ∧ (monitoring.chan 31).last = some { value := 1180, quality := .valid, time := 0 }) := by
  refine ⟨⟨accepts_of ?_, ?_⟩, ⟨accepts_of ?_, ?_⟩, ⟨accepts_of ?_, ?_⟩, accepts_of ?_, ?_, ?_, ?_⟩ <;>
    decide +kernel

theorem witness_ReadRequestsAreAnsweredOrQueued :
    let read := [9, 0, 0, 0, 31, 1]
    let freshRead := [10, 0, 0, 0, 31]
    let rescan := [11, 0, 0, 0, 32]
    let none_ := inState .monitoring 5 live
    ((asks read none_).Accepts (record read) .readChannel ∧ (none_.chan 31).binding = none)
    ∧ ((asks read monitoring).Accepts (record read) .readChannel ∧ (monitoring.chan 31).last.isSome = true)
    ∧ (((monitoring.setChan 31 { bound 3 1 1 false .pending with last := none }).chan 31).last = none)
    ∧ (asks freshRead none_).Accepts (record freshRead) .freshRead
    ∧ ((asks freshRead (monitoring.setStn 3 silent)).Accepts (record freshRead) .freshRead
      ∧ ((monitoring.setStn 3 silent).stn 3).state ≠ .adopted)
    ∧ ((asks freshRead monitoring).Accepts (record freshRead) .freshRead
      ∧ (monitoring.stn 3).state = .adopted ∧ (monitoring.stn 3).hasPoint 1 1 = true)
    ∧ ((asks [11] none_).Accepts (record [11]) .rescan ∧ Request.addressSet (record [11]) = 0)
    ∧ ((asks rescan none_).Accepts (record rescan) .rescan ∧ Request.addressSet (record rescan) = 32)
    ∧ (let w : LinkWork := .rescan 1 { last := 0, probe := none }
       let s := withJob 1 .rescan (.link 0) (some w) none_
       (asks rescan s).Accepts (record rescan) .rescan ∧ s.req.jobs.map Job.kind = [.rescan]) := by
  refine ⟨⟨accepts_of ?_, ?_⟩, ⟨accepts_of ?_, ?_⟩, ?_, accepts_of ?_, ⟨accepts_of ?_, ?_⟩,
    ⟨accepts_of ?_, ?_⟩, ⟨accepts_of ?_, ?_⟩, ⟨accepts_of ?_, ?_⟩, accepts_of ?_, ?_⟩ <;> decide +kernel

theorem witness_AcceptStationAdopts :
    let r := fun a => [12, 0, 0, 0, a]
    let q := { adopted with state := .rejected, reason := some .changed }
    ((asks (r 13) (inState .stopped 5 live)).Accepts (record (r 13)) .acceptStation
      ∧ ¬ (1 ≤ (byteAt (record (r 13)) 4).toNat ∧ (byteAt (record (r 13)) 4).toNat ≤ 12))
    ∧ (asks (r 0) (inState .stopped 5 live)).Accepts (record (r 0)) .acceptStation
    ∧ ((asks (r 12) (inState .stopped 5 live)).Accepts (record (r 12)) .acceptStation
      ∧ (byteAt (record (r 12)) 4).toNat = 12 ∧ (live.stn 12).state ≠ .rejected)
    ∧ (let s := (inState .stopped 5 live).setStn 1 q
       (asks (r 1) s).Accepts (record (r 1)) .acceptStation
       ∧ (s.stn 1).state = .rejected ∧ (s.stn 1).reason = some .changed) := by
  refine ⟨⟨accepts_of ?_, ?_⟩, accepts_of ?_, ⟨accepts_of ?_, ?_, ?_⟩, accepts_of ?_, ?_, ?_⟩ <;>
    decide +kernel

/-- Station 3 leaves ADOPTED with a FRESH_READ on it: MISSED with no other station ADOPTED, and MISSED
with one left; and station 1 leaves ADOPTED in guard. -/
theorem witness_AcceptStationAdopts_change :
    let s := withJob 1 .freshRead (.link 1) (some (fresh .poll true)) monitoring
    let gone := adopted.toSilent .missed 505
    let kept := stopping.changeStation 3 gone
    (s.JobLaw ∧ stopping.JobLaw ∧ gone.state ≠ (s.stn 3).state)
    ∧ ((s.stn 3).state = .adopted ∧ gone.state = .silent ∧ gone.reason = some .missed
      ∧ (∀ o < 13, o ≠ 3 → (s.stn o).state ≠ .adopted) ∧ s.mon.state = .monitoring
      ∧ (s.changeStation 3 gone).mon.state = .recovering)
    ∧ ((stopping.stn 4).state = .adopted ∧ kept.mon.state = .monitoring ∧ kept.sched.jobs = []
      ∧ kept.ring.completionWrites.map (fun w => (w.record.status, w.record.generation))
        = [(.stationLost, 1)])
    ∧ (let w := watching 100 adopted (some (poll .poll))
       w.JobLaw ∧ w.mon.guardActive = true ∧ (w.stn 1).state = .adopted
       ∧ (w.changeStation 1 gone).mon.guardPoll = none) := by
  refine ⟨⟨jobLaw_of ?_, jobLaw_of ?_, ?_⟩, ?_, ?_, jobLaw_of ?_, ?_⟩ <;> decide +kernel

/-- Each check of DUMP at its boundary. -/
theorem witness_DumpIsCheckedAndPlaced :
    let r := fun first count buffer => [13, 0, 2, 0, 1, 0, first, count, buffer, 64]
    let far := [13, 0, 2, 0, 1, 0, 0, 32, 0, 0, 0, 0, 1]
    let next := [13, 0, 2, 0, 1, 1, 0, 32, 0, 64]
    let m := inState .monitoring 5 live
    ((asks (r 1 128 0) live).Accepts (record (r 1 128 0)) .dump)
    ∧ (asks (r 0 128 0) live).Accepts (record (r 0 128 0)) .dump
    ∧ writable live.mem.windows 0x4000 (16 * 128) = true
    ∧ ((asks (r 0 1 8) live).Accepts (record (r 0 1 8)) .dump
      ∧ (quadAt (record (r 0 1 8)) 8).toNat % 16 ≠ 0)
    ∧ ((asks far live).Accepts (record far) .dump ∧ writable live.mem.windows 0x100000000 512 = false)
    ∧ (asks next m).Accepts (record next) .dump
    ∧ (asks next stopping).Accepts (record next) .dump
    ∧ stopping.req.jobs.map (fun j => j.waitingDump.isSome) = [false, true, false]
    ∧ (let st := [13, 0, 2, 0, 2, 1]
       (asks st m).Accepts (record st) .dump ∧ Request.dumpSubject (record st) = .stations) := by
  refine ⟨accepts_of ?_, accepts_of ?_, ?_, ⟨accepts_of ?_, ?_⟩, ⟨accepts_of ?_, ?_⟩, accepts_of ?_,
    accepts_of ?_, ?_, accepts_of ?_, ?_⟩ <;> decide +kernel

theorem witness_RearmAndForceActByTheLatch :
    let member := monitoring.setChan 31 (bound 3 1 1 true .critical)
    let s := fun l x => asks [14] (latched l x)
    ((s .clear monitoring).Accepts (record [14]) .rearmTrip)
    ∧ ((s .tripped member).Accepts (record [14]) .rearmTrip ∧ (member.chan 31).isMember = true)
    ∧ ((s .tripped monitoring).Accepts (record [14]) .rearmTrip
      ∧ (∀ n < 128, (monitoring.chan n).isMember = false) ∧ monitoring.mon.guardActive = false
      ∧ monitoring.mon.lineFaulted = false)
    ∧ ((s .rearmWait live).Accepts (record [14]) .rearmTrip ∧ live.mon.guardActive = true)
    ∧ (s .rearmWait monitoring).Accepts (record [14]) .rearmTrip
    ∧ (asks [15] (latched .rearmWait live)).Accepts (record [15]) .forceTrip
    ∧ (asks [15] (latched .tripped live)).Accepts (record [15]) .forceTrip
    ∧ (asks [15] live).Accepts (record [15]) .forceTrip ∧ live.trip.latch = .clear := by
  refine ⟨accepts_of ?_, ⟨accepts_of ?_, ?_⟩, ⟨accepts_of ?_, ?_, ?_, ?_⟩, ⟨accepts_of ?_, ?_⟩,
    accepts_of ?_, accepts_of ?_, accepts_of ?_, accepts_of ?_, ?_⟩ <;> decide +kernel

/-- A channel one millisecond past the stale limit, and one at it; a fault one millisecond past the
grace. -/
theorem witness_FreshnessAndGraceSteps :
    let s := inState .monitoring 3010 ((monitoring.setChan 30 { bound 3 1 0 false .normal with
      last := some { value := 0, quality := .valid, time := 9 } }).setChan 29 { bound 3 0 0 false .normal with
      last := some { value := 0, quality := .valid, time := 10 } })
    (s.mon.state = .monitoring ∧ s.mon.time.toNat % 10 = 0
      ∧ s.mon.params.staleLimit < (s.mon.time - 9).toNat ∧ ¬ s.mon.params.staleLimit < (s.mon.time - 10).toNat
      ∧ ∀ n < 128, (s.chan n).isMember = false)
    ∧ ¬ (inState .monitoring 3011 s).mon.time.toNat % 10 = 0
    ∧ (let f := faulted 0 (inState .recovering 251 (s.setChan 31 (bound 3 1 1 true .unreachable)))
       f.mon.lineFaulted = true ∧ f.trip.linkCauseRaised = false ∧ (f.chan 31).isMember = true
       ∧ f.trip.faultStart = some 0 ∧ f.mon.params.tripGrace < (f.mon.time - 0).toNat
       ∧ ¬ f.mon.params.tripGrace < ((250 : Time) - 0).toNat) := by decide +kernel

/-- Two members that age, and one that does not: the causes by channel 29 and then by channel 30. -/
theorem witness_FreshnessAndGraceSteps_members :
    let aged := fun n => { bound 3 1 n true .normal with
      last := some { value := 0, quality := .valid, time := 9 } }
    let s := inState .monitoring 3010 (((monitoring.setChan 30 (aged 0)).setChan 29 (aged 2)).setChan 28
      { aged 3 with last := some { value := 0, quality := .valid, time := 10 } })
    let t := after .freshnessStep { s with trip := { s.trip with marks := 7 <<< 28 } }
    (s.mon.state = .monitoring ∧ s.mon.time.toNat % 10 = 0
      ∧ [28, 29, 30].all fun n => (s.chan n).isMember)
    ∧ [28, 29, 30].map (fun n => (t.chan n).condition) = [.normal, .stale, .stale]
    ∧ t.trip.latch = .tripped ∧ t.trip.marks = 1 <<< 28
    ∧ t.trip.cause.map (fun c => (c.kind, c.source, c.count)) = some (.memberFault, 29, 2)
    ∧ t.ring.eventWrites.map (fun w => w.record.source) = [.channel 29, .trip, .channel 30, .channel 31] := by
  decide +kernel

/-- Each timer one millisecond before its time, and at it. -/
theorem witness_TimersAndWaitsEnd :
    (sweeping.sched.timer = some { next := 1000, period := 1000 }
      ∧ 2 ^ 31 ≤ ((999 : Time) - 1000).toNat ∧ ((1000 : Time) - 1000).toNat < 2 ^ 31)
    ∧ (sweeping.sched.sweep = none ∧ live.sched.timer = none)
    ∧ (let s := withJob 1 .freshRead (.link 1) (some (fresh (.waiting 3) true)) monitoring
       s.sched.jobs.map LinkJob.work = [fresh (.waiting 3) true] ∧ 2 ≤ (s.mon.time - 3).toNat
       ∧ ¬ 2 ≤ (s.mon.time - 4).toNat)
    ∧ ((watching 2 adopted (some (poll (.waiting 0)))).mon.guardPoll = some (poll (.waiting 0)))
    ∧ (((2000 : Time) - 0).toNat = 2000 ∧ ((1999 : Time) - 0).toNat < 2000)
    ∧ (let w := watching 100 adopted none
       w.mon.state = .guarding ∧ w.mon.guardStage = some .watching ∧ (w.stn 1).state = .adopted
       ∧ w.mon.guardPoll = none ∧ w.mon.nextGuardPoll = some 100 ∧ (w.mon.time - 100).toNat < 2 ^ 31)
    ∧ (let w := watching 0 silent none
       (w.stn 1).state = .silent ∧ (w.stn 1).holder = none ∧ w.mon.guardReprobe = none
       ∧ (w.stn 1).reprobeAt = some 0)
    ∧ ((poll .poll).stage ≠ .quality ∧ 200 ≤ ((200 : Time) - 0).toNat ∧ ¬ 200 ≤ ((199 : Time) - 0).toNat)
    ∧ (inState .recovering 0 live).mon.recovery.isSome = true := by decide +kernel

/-- A sweep with nothing left to visit, and a NEXT_SWEEP dump that waits. -/
def sweepEnds (sweepAtTake : Bool) : State :=
  let s := withJob 1 .dump (.dump (nextSweep sweepAtTake)) none (inState .monitoring 9 live)
  { s with sched := { s.sched with sweep := some { beginTime := 4, position := .after 12 } } }

/-- The sweep of the take passes; the next one is captured; the last record written completes it. -/
theorem witness_TimersAndWaitsEnd_capture :
    ((sweepEnds true).JobLaw ∧ (sweepEnds false).JobLaw)
    ∧ (∀ b, let s := sweepEnds b
      s.bus.txn = none ∧ s.bus.primitive = none ∧ s.mon.state = .monitoring ∧ s.bus.attnLow = false
      ∧ (∀ a < 13, (s.stn a).owed = 0 ∧ (s.stn a).state ≠ .adopted ∧ (s.stn a).state ≠ .silent)
      ∧ s.sched.jobs = [] ∧ s.req.jobs.map Job.waitingDump = [some (nextSweep b)])
    ∧ (after .linkGrant (sweepEnds true)).req.jobs.map Job.waitingDump = [some (nextSweep false)]
    ∧ (after .linkGrant (sweepEnds false)).req.dumpQueue = [1]
    ∧ (let d : DumpJob := { dump 1 with nextSweep := true, phase := .writing (some 4) }
       let s := inFlight (.dumpWrite 1) true (withJob 1 .dump (.dump d) none live)
       s.mem.inFlight.map (fun a => (a.sendable, a.kind)) = some (true, .dumpWrite 1)
       ∧ (s.dumpOf 1).map Prod.snd = some d ∧ d.count ≤ d.written + 1
       ∧ (after .dumpWriteDone s).ring.completionWrites.map (fun w => w.record.time) = [4]) := by
  refine ⟨⟨jobLaw_of ?_, jobLaw_of ?_⟩, ?_⟩ <;> decide +kernel

theorem witness_FreshReadTimesOut :
    let j := fun s => withJob 1 .freshRead (.link 1) (some (fresh .convert false)) s
    let s := j (inState .monitoring 200 live)
    (s.JobLaw ∧ s.sched.jobs = [] ++ { order := 1, abandoned := false, work := fresh .convert false } :: []
      ∧ 200 ≤ (s.mon.time - 0).toNat ∧ ∀ k ∈ s.req.jobs, ∀ ws, k.work ≠ .sync ws)
    ∧ ¬ 200 ≤ ((j (inState .monitoring 199 live)).mon.time - 0).toNat := by
  refine ⟨⟨jobLaw_of (by decide +kernel), by decide +kernel, by decide +kernel, ?_⟩, by decide +kernel⟩
  intro k hk ws h
  change k ∈ [_] at hk
  simp only [List.mem_singleton] at hk
  subst hk
  cases h

/-- A SYNC in a slot that waits for the FRESH_READ that times out. -/
theorem witness_FreshReadTimesOut_sync :
    let s := withSync 2 [1]
      (withJob 1 .freshRead (.link 1) (some (fresh .convert false)) (inState .monitoring 200 live))
    s.JobLaw ∧ answers (after .freshReadTimeout s) = [(1, .timeout, 0), (2, .ok, 0)] :=
  ⟨jobLaw_of (by decide +kernel), by decide +kernel⟩

/-- The running FRESH_READ of channel 31 at a stage. -/
def freshAt (stage : FreshStage) : State :=
  withJob 1 .freshRead (.link 1) (some (fresh stage true)) monitoring

/-- The link is idle and nothing of a higher rank than JOB has work. -/
def jobServed (s : State) : Bool :=
  s.linkIdle && !s.bus.datLow && s.mon.state == .monitoring && !s.bus.attnLow
    && (List.range 13).all fun a => (s.stn a).owed == 0

/-- Each stage of a FRESH_READ, its channel unbound or bound anew, its station lost. -/
theorem witness_FreshReadTimesOut_grant :
    let stages := [FreshStage.convert, .poll, .waiting 4, .replan, .quality, .reading]
    let unbound := (freshAt .poll).setChan 31 Channel.reset
    let anew := (freshAt .poll).setChan 31 { bound 3 1 1 false .normal with generation := 2 }
    let lost := (freshAt .poll).setStn 3 silent
    (∀ g ∈ stages, (freshAt g).JobLaw)
    ∧ (∀ s ∈ [unbound, anew, lost] ++ stages.map freshAt, jobServed s = true
      ∧ s.sched.jobs.map LinkJob.abandoned = [false])
    ∧ ((monitoring.chan 31).generation = 1 ∧ (monitoring.stn 3).hasPoint 1 1 = true
      ∧ (freshAt (.waiting 4)).sched.sweep = none)
    ∧ (stages.map fun g => (after .linkGrant (freshAt g)).bus.txn.map fun x => (x.register, x.data))
      = [some (3, some 0x0201), some (2, none), none, some (3, some 0x1001), some (49, none),
        some (25, none)]
    ∧ [unbound, anew, lost].map (fun s => answers (after .linkGrant s))
      = [[(1, .notBound, 0)], [(1, .notBound, 0)], [(1, .stationLost, 0)]] := by
  refine ⟨?_, ?_⟩
  · intro g hg
    simp only [List.mem_cons, List.not_mem_nil, or_false] at hg
    rcases hg with rfl | rfl | rfl | rfl | rfl | rfl <;> exact jobLaw_of (by decide +kernel)
  · decide +kernel

/-- A RESCAN of addresses 3 and 5 with the probe of address 3 at a step. -/
def rescanAt (step : ProbeStep) : State :=
  withRescan 2 (some { address := 3, step := step, written := { fns := 2, attn := 0 } })
    (monitoring.setStn 3 { silent with holder := some .job })

/-- A RESCAN before its first address, between two, and after its last; each later step of a probe. -/
theorem witness_FreshReadTimesOut_rescanGrant :
    let walks := [withRescan 0 none monitoring, withRescan 3 none monitoring, withRescan 5 none monitoring]
    let steps := [rescanAt .id1, rescanAt .control, rescanAt .status]
    ((withRescan 0 none monitoring).JobLaw ∧ (withRescan 5 none monitoring).JobLaw
      ∧ (rescanAt .id1).JobLaw)
    ∧ (∀ s ∈ walks ++ steps, jobServed s = true ∧ s.sched.jobs.map LinkJob.abandoned = [false])
    ∧ ((0x14 : BitVec 12).getLsbD 2 = true ∧ (∀ b < 2, (0x14 : BitVec 12).getLsbD b = false)
      ∧ (0x14 : BitVec 12).getLsbD 4 = true ∧ ∀ b < 12, 5 ≤ b → (0x14 : BitVec 12).getLsbD b = false)
    ∧ ((rescanAt .id1).stn 3).holder = some .job
    ∧ ((walks ++ steps).map fun s => (after .linkGrant s).bus.txn.map fun x => (x.address, x.register))
      = [some (3, 0), some (5, 0), none, some (3, 1), some (3, 3), some (3, 2)]
    ∧ answers (after .linkGrant (withRescan 5 none monitoring)) = [(1, .ok, 0)] := by
  refine ⟨⟨jobLaw_of ?_, jobLaw_of ?_, jobLaw_of ?_⟩, ?_⟩ <;> decide +kernel

/-- A transaction of the running job on the bus. -/
def jobTxn (register : Nat) (data : Option (BitVec 16)) (p : Purpose) : Transaction :=
  { statusRead 3 .job with register := register, data := data, purpose := p }

/-- The stage that the running FRESH_READ is at after a command. -/
def stageAfter (c : Instr) (s : State) : Option (FreshStage × Bool × Bool) :=
  match (after c s).sched.jobs with
  | j :: _ => match j.work with
    | .fresh f => some (f.stage, f.acked, f.flagSeen)
    | .rescan _ _ => none
  | [] => none

/-- Each outcome of the transactions of a FRESH_READ; the miss count at the end of its range. -/
theorem witness_FreshReadTimesOut_advance :
    let ack := Instr.responseReceived StationDevice.ackWrite
    let reply := fun d => Instr.responseReceived (StationDevice.ackRead d)
    let convert := jobTxn 3 (some 0x0201) .convertWrite
    let replan := jobTxn 3 (some 0x1001) (.planWrite { fns := 1, attn := 0 })
    let quality := jobTxn 49 none (.qualityRead 1)
    let status := jobTxn 2 none .statusRead
    ((monitoring.stn 3).state = .adopted ∧ (monitoring.chan 31).binding.map Binding.loc
        = some { station := 3, fn := 1, point := 1 } ∧ (monitoring.stn 3).missCount < 2
      ∧ convert.orphan = false ∧ convert.phase = .awaiting ∧ convert.activity = .job)
    ∧ (judgeResponse convert.data.isNone StationDevice.ackWrite = .goodAck 0
      ∧ judgeResponse status.data.isNone (StationDevice.ackRead 0x12) = .goodAck 0x12)
    ∧ stageAfter ack (onBus convert (freshAt .convert)) = some (.poll, true, false)
    ∧ stageAfter (reply 0x12) (onBus status (freshAt .poll)) = some (.replan, false, false)
    ∧ stageAfter (reply 0x02) (onBus status (freshAt .poll)) = some (.quality, true, true)
    ∧ stageAfter (reply 0x0D) (onBus status (freshAt .poll)) = some (.waiting 5, true, false)
    ∧ stageAfter ack (onBus replan (freshAt .replan)) = some (.convert, true, false)
    ∧ stageAfter (reply 0) (onBus quality (freshAt .quality)) = some (.reading, true, false)
    ∧ stageAfter .responseWindowExpiry (onBus { status with second := true } (freshAt .poll))
      = some (.waiting 5, true, false) := by decide +kernel

/-- A reading of channel 31 by the job itself, by a sweep and by an attention pass. -/
theorem witness_FreshReadTimesOut_reading :
    let tag : ReadingTag := { channel := 31, generation := 1, quality := some .valid, fault := false }
    let x := fun act => { jobTxn 25 none (.readingRead 1 1 (some tag)) with activity := act }
    let c := Instr.responseReceived (StationDevice.ackRead 1210)
    (freshAt .reading).JobLaw ∧ (freshAt .reading).mon.state = .monitoring
    ∧ (monitoring.chan 31).generation = 1 ∧ (monitoring.chan 31).condition ≠ .unreachable
    ∧ judgeResponse true (StationDevice.ackRead 1210) = .goodAck 1210
    ∧ ∀ act ∈ [Activity.job, .sweep, .attention],
        (onBus (x act) (freshAt .reading)).sched.jobs.map LinkJob.abandoned = [false]
        ∧ answers (after c (onBus (x act) (freshAt .reading))) = [(1, .ok, 0)] :=
  ⟨jobLaw_of (by decide +kernel), by decide +kernel⟩

/-- The last step of a probe with an address left and with none; a NAK; a second MISSED. -/
theorem witness_FreshReadTimesOut_rescan :
    let s := fun a step => onBus
      { jobTxn 2 none (.probeStep step { fns := 2, attn := 0 }) with address := a, second := true }
      (withRescan (a - 1) (some { address := a, step := step, written := { fns := 2, attn := 0 } })
        (monitoring.setStn a { silent with holder := some .job }))
    let done := Instr.responseReceived (StationDevice.ackRead 0)
    let nak := Instr.responseReceived StationDevice.nak
    ((s 3 .status).JobLaw ∧ (s 5 .status).JobLaw)
    ∧ (((s 3 .status).stn 3).holder = some .job ∧ ((s 5 .status).stn 5).holder = some .job
      ∧ ((s 3 .status).stn 3).state ≠ .adopted
      ∧ judgeResponse true (StationDevice.ackRead 0) = .goodAck 0
      ∧ judgeResponse true StationDevice.nak = .goodNak)
    ∧ (∀ c ∈ [done, nak, .responseWindowExpiry],
        (after c (s 3 .status)).sched.jobs.map LinkJob.work = [.rescan 0x14 { last := 3, probe := none }]
        ∧ answers (after c (s 5 .status)) = [(1, .ok, 0)])
    ∧ (after done (s 3 .control)).sched.jobs.map LinkJob.work = (rescanAt .status).sched.jobs.map LinkJob.work := by
  refine ⟨⟨jobLaw_of ?_, jobLaw_of ?_⟩, ?_⟩ <;> decide +kernel

/-- A probe whose hold has been taken, with an address left and with none; a probe of a station that
is not ADOPTED that a class of 6 or a point count of 9 rejects. -/
theorem witness_FreshReadTimesOut_rescanLost :
    let lost := fun a => withRescan (a - 1) (some { Probe.start a with step := .id1 })
      (monitoring.setStn a { silent with holder := some .sweep })
    let s := fun step => onBus
      { jobTxn 0 none (.probeStep step { fns := 0, attn := 0 }) with address := 5 }
      (withRescan 4 (some { Probe.start 5 with step := step })
        (monitoring.setStn 5 { silent with holder := some .job }))
    let reply := fun d => Instr.responseReceived (StationDevice.ackRead d)
    ((s .id0).JobLaw ∧ (s .id1).JobLaw ∧ (lost 3).JobLaw ∧ (lost 5).JobLaw)
    ∧ ((lost 3).stn 3).holder ≠ some .job ∧ jobServed (lost 3) = true ∧ jobServed (lost 5) = true
    ∧ (after .linkGrant (lost 3)).bus.txn.map Transaction.address = some 5
    ∧ answers (after .linkGrant (lost 5)) = [(1, .ok, 0)]
    ∧ ((s .id0).stn 5).state ≠ .adopted
    ∧ answers (after (reply 0x0603) (s .id0)) = [(1, .ok, 0)]
    ∧ answers (after (reply 0x0092) (s .id1)) = [(1, .ok, 0)] := by
  refine ⟨⟨jobLaw_of ?_, jobLaw_of ?_, jobLaw_of ?_, jobLaw_of ?_⟩, ?_⟩ <;> decide +kernel

/-- Each stage of the guard poll: what a grant sends. -/
theorem witness_TimersAndWaitsEnd_guardGrant :
    let s := fun stage => watching 100 adopted (some (poll stage))
    let stages := [GuardPollStage.convert, .poll, .replan, .quality, .reading, .waiting 99]
    (∀ g ∈ stages, (s g).mon.state = .guarding ∧ (s g).mon.guardStage = some .watching
      ∧ (s g).mon.guardPoll.map GuardPoll.stage = some g ∧ (s g).sched.sweep = none
      ∧ (s g).linkIdle = true ∧ (s g).bus.datLow = false)
    ∧ (stages.map fun g => (after .linkGrant (s g)).bus.txn.map fun x => (x.register, x.data))
      = [some (3, some 0x0101), some (2, none), some (3, some 0x1001), some (48, none), some (16, none),
        none] := by decide +kernel

/-- Each outcome of the guard poll's transactions; a reading of 1760 and one of 1759 in REARM_WAIT. -/
theorem witness_TimersAndWaitsEnd_guardOutcome :
    let x : Nat → Option (BitVec 16) → Purpose → Transaction := fun register data p =>
      { statusRead 1 .guardPoll with register := register, data := data, purpose := p }
    let s := fun stage y => onBus y (watching 100 adopted (some (poll stage)))
    let ack := Instr.responseReceived StationDevice.ackWrite
    let reply := fun d => Instr.responseReceived (StationDevice.ackRead d)
    let stage := fun c g y => (after c (s g y)).mon.guardPoll.map fun h => (h.stage, h.fault)
    let status := x 2 none .statusRead
    let read := x 16 none (.readingRead 0 0 none)
    ((s .poll status).bus.txn = some status ∧ status.phase = .awaiting ∧ status.orphan = false
      ∧ ((s .poll status).stn 1).state = .adopted ∧ ((s .poll status).stn 1).missCount < 2
      ∧ (s .poll status).mon.guardActive = true)
    ∧ (judgeResponse true (StationDevice.ackRead 0x31) = .goodAck 0x31
      ∧ judgeResponse false StationDevice.ackWrite = .goodAck 0
      ∧ judgeResponse true StationDevice.nak = .goodNak ∧ judgeResponse true [] = .corrupt)
    ∧ stage ack .convert (x 3 (some 0x0101) .convertWrite) = some (.poll, false)
    ∧ stage (reply 0x31) .poll status = some (.replan, false)
    ∧ stage (reply 0x21) .poll status = some (.quality, true)
    ∧ stage (reply 0x2E) .poll status = some (.waiting 100, false)
    ∧ stage ack .replan (x 3 (some 0x1001) (.planWrite { fns := 1, attn := 0 })) = some (.convert, false)
    ∧ stage (reply 0) .quality (x 48 none (.qualityRead 0)) = some (.reading, false)
    ∧ stage (.responseReceived StationDevice.nak) .poll status = none
    ∧ stage .responseWindowExpiry .quality { status with second := true } = none
    ∧ (qualityOf 0 0 = .valid ∧ (1760 : BitVec 16).toInt = 1760)
    ∧ (after (reply 1760) (s .reading read)).trip.latch = .tripped
    ∧ (after (reply 1759) (latched .rearmWait (s .reading read))).trip.latch = .clear
    ∧ (after (reply 1760) (onBus read (watching 100 adopted
        (some { poll .reading with fault := true })))).trip.latch = .clear := by decide +kernel

/-! ### The link -/

/-- A sweep that has visited no station yet. -/
def begun (s : State) : State :=
  { s with sched := { s.sched with sweep := some { beginTime := 4, position := .after 0 } } }

/-- Guard start-up after its broadcast reset. -/
def startup : State :=
  { live with mon := { live.mon with guardStage := some (.startup true none) } }

/-- A recovery at a stage, with a primitive on the bus and a level of DB_DAT. -/
def recovering (stage : RecoveryStage) (p : Option Primitive) (low : Bool) : State :=
  let s := inState .recovering 20001 live
  { s with
    mon := { s.mon with recovery := some { stage := stage, reason := .lineStuck } }
    bus := { s.bus with primitive := p, datLow := low } }

/-- A grant for each rank: SETUP, ATTENTION, JOB, SWEEP, and the guard poll. -/
theorem witness_LinkGrantServesTheHighestRank :
    let attending : State := { begun monitoring with bus := { monitoring.bus with attnLow := true } }
    let urgent := attending.setStn 3 { adopted with plan := { fns := 2, attn := 2 } }
    let job := withJob 1 .freshRead (.link 1) (some (fresh .convert false)) (begun monitoring)
    let guard_ := watching 100 adopted (some (poll .convert))
    (∀ s ∈ [startup, urgent, job, begun monitoring, guard_],
      s.bus.txn = none ∧ s.bus.primitive = none ∧ answersNext .linkGrant s = true)
    ∧ ([startup, urgent, job, begun monitoring, guard_].map fun s =>
        (after .linkGrant s).bus.txn.map Transaction.activity)
      = [some .guardStartup, some .attention, some .job, some .sweep, some .guardPoll]
    ∧ (onBus (statusRead 3 .sweep) monitoring).bus.txn ≠ none := by decide +kernel

/-- The conditions of the ranks hold where the grants above were made, and fail at their edges: the
retry wait, a flag without its enable, attention stuck, a poll waiting out its time, an abandoned job. -/
theorem witness_LinkGrantServesTheHighestRank_ranks :
    let wait := recovering (.retryWait 0) none false
    let owed := fun plan => monitoring.setStn 12 { adopted with owed := 8, plan := plan }
    let job := fun stage => withJob 1 .freshRead (.link 1) (some (fresh stage false)) monitoring
    let gone : State := { job .poll with sched := { (job .poll).sched with
      jobs := (job .poll).sched.jobs.map fun j => { j with abandoned := true } } }
    (∃ sent p, startup.mon.guardStage = some (.startup sent p)) ∧ startup.mon.state = .guarding
    ∧ (recovering .releaseRound none false).setupNext ≠ .nothing ∧ wait.setupNext = .nothing
    ∧ (wait.mon.recovery.map Recovery.stage = some (.retryWait 0))
    ∧ (owed { fns := 8, attn := 8 }).attentionHasWork = true
    ∧ (owed { fns := 8, attn := 7 }).attentionHasWork = false
    ∧ (let s := owed { fns := 8, attn := 8 }
       ({ s with sched := { s.sched with attnStuck := true } } : State).attentionHasWork = false)
    ∧ (job .convert).jobReady = true ∧ (job (.waiting 5)).jobReady = false ∧ gone.jobReady = false := by
  refine ⟨⟨true, none, rfl⟩, rfl, ?_, ?_, ?_, ?_, ?_, ?_, ?_, ?_, ?_⟩ <;> decide +kernel

theorem witness_LinkGrantIssuesTheNextTransaction :
    (startup.bus.txn = none ∧ startup.bus.primitive = none ∧ startup.bus.datLow = false
      ∧ startup.mon.state = .guarding ∧ startup.mon.guardStage = some (.startup true none))
    ∧ (let s := begun monitoring
       s.mon.state = .monitoring ∧ s.bus.attnLow = false ∧ (∀ a < 13, (s.stn a).owed = 0)
       ∧ s.sched.jobs = [] ∧ s.sched.sweep = some { beginTime := 4, position := .after 0 }
       ∧ (s.stn 3).state = .adopted ∧ (∀ b < 3, (s.stn b).state ≠ .adopted)
       ∧ (s.stn 3).planApplied = true ∧ (s.stn 3).plan.fns ≠ 0)
    ∧ ((begun (monitoring.setStn 3 { adopted with planApplied := false })).stn 3).planApplied = false
    ∧ (let s := begun (inState .monitoring 5 live)
       (∀ a < 13, (s.stn a).state ≠ .adopted ∧ (s.stn a).state ≠ .silent) ∧ s.req.jobs = [])
    ∧ (let s : State := { monitoring with bus := { monitoring.bus with attnLow := true } }
       s.sched.attnStuck = false ∧ s.mon.params.attentionUse = true ∧ s.sched.pass = none
       ∧ s.sched.emptyPasses < 2 ∧ ∀ a < 13, (s.stn a).plan.attn = 0) := by decide +kernel

/-- A sweep at a position. -/
def sweepAt (pos : SweepPosition) (s : State) : State :=
  { s with sched := { s.sched with sweep := some { beginTime := 4, position := pos } } }

/-- A pass at a position, DB_ATTN low. -/
def passAt (pos : PassPosition) (s : State) : State :=
  { s with
    bus := { s.bus with attnLow := true }
    sched := { s.sched with pass := some { position := pos, foundFlag := false } } }

/-- The transaction that a grant sends: its activity, address, register and data. -/
def sent (s : State) : Option (Activity × Nat × Nat × Option (BitVec 16)) :=
  (after .linkGrant s).bus.txn.map fun x => (x.activity, x.address, x.register, x.data)

/-- Station 3 with function 1 in use and owed, its channel 31 at point 1. -/
def flagged : State :=
  monitoring.setStn 3
    { adopted with plan := { fns := 2, attn := 2 }, owed := 2, raisedAgain := 2 }

/-- Each stage of a visit of the sweep; the example of 5.10 has them in this order. -/
theorem witness_LinkGrantIssuesTheNextTransaction_visits :
    let v : VisitStage → Visit := fun stage => { Visit.start 3 with stage := stage, quality := some 4 }
    let s := fun stage => sweepAt (.visiting (v stage)) { flagged with
      sched := { flagged.sched with attnStuck := true } }
    let stages := [VisitStage.status, .replan, .functions, .inFunction 1 none, .inFunction 1 (some 1)]
    (∀ g ∈ stages, (s g).mon.state = .monitoring ∧ (s g).sched.attnStuck = true
      ∧ (s g).sched.jobs = [] ∧ (s g).linkIdle = true ∧ ((s g).stn 3).state = .adopted
      ∧ (v g).allDone = false)
    ∧ ((flagged.stn 3).hasPoint 1 1 = true ∧ (flagged.chan 31).loc
        = some { station := 3, fn := 1, point := 1 } ∧ ∀ m < 31, (flagged.chan m).loc = none)
    ∧ stages.map (fun g => sent (s g)) = [some (.sweep, 3, 2, none), some (.sweep, 3, 3, some 0x1022),
        some (.sweep, 3, 49, none), some (.sweep, 3, 25, none), none]
    ∧ ((after .linkGrant (s .functions)).stn 3).raisedAgain = 0
    ∧ ((after .linkGrant (s (.inFunction 1 none))).bus.txn.map Transaction.purpose
      = some (.readingRead 1 1 (some
        { channel := 31, generation := 1, quality := some .openInput, fault := false })))
    ∧ (after .linkGrant (s (.inFunction 1 (some 1)))).sched.sweepsCompleted = 1 := by decide +kernel

/-- The report that a grant makes: the point read, the channel of the next one retired. The owed flag is
cleared unless raised again, and the visit goes on to the next function or ends, in sweep and pass. -/
theorem witness_LinkGrantIssuesTheNextTransaction_report :
    let v : Visit := { Visit.start 3 with stage := .inFunction 0 (some 0), allDone := true }
    let q : BitVec 4 → BitVec 4 → Station := fun fns again =>
      { adopted with plan := { fns := fns, attn := fns }, owed := 3, raisedAgain := again }
    let on := fun fns again => monitoring.setStn 3 (q fns again)
    let calm := fun s : State => { s with sched := { s.sched with attnStuck := true } }
    let swept := fun fns again => sweepAt (.visiting v) (calm (on fns again))
    let passed := fun fns again => passAt (.visiting v) (on fns again)
    let grants := [swept 3 0, swept 3 1, swept 1 0, passed 3 0, passed 3 1, passed 1 0]
    (v.allDone = true ∧ v.reported = false)
    ∧ (∀ n < 128, (monitoring.chan n).loc.map Location.fn ≠ some 0)
    ∧ grants.map sent = [some (.sweep, 3, 49, none), some (.sweep, 3, 49, none), none,
        some (.attention, 3, 49, none), some (.attention, 3, 49, none), none]
    ∧ grants.map (fun s => ((after .linkGrant s).stn 3).owed) = [2, 3, 2, 2, 3, 2]
    ∧ (after .linkGrant (swept 1 0)).sched.sweepsCompleted = 1
    ∧ (after .linkGrant (passed 1 0)).sched.attentionPasses = 1 := by decide +kernel

/-- A pass that visits station 3: its first transaction, a function owed, and none left. -/
theorem witness_LinkGrantIssuesTheNextTransaction_pass :
    let v : VisitStage → Visit := fun stage => { Visit.start 3 with stage := stage }
    let begin_ : State := { flagged with bus := { flagged.bus with attnLow := true } }
    (begin_.sched.pass = none ∧ begin_.sched.attnStuck = false ∧ begin_.mon.params.attentionUse = true
      ∧ (begin_.stn 3).planApplied = true ∧ (begin_.stn 3).plan.attn ≠ 0
      ∧ ∀ b < 3, (begin_.stn b).state ≠ .adopted)
    ∧ [begin_, begin_.setStn 3 { begin_.stn 3 with planApplied := false },
        passAt (.visiting (v .functions)) flagged,
        passAt (.visiting (v (.inFunction 1 none))) flagged].map sent
      = [some (.attention, 3, 2, none), some (.attention, 3, 3, some 0x1022),
        some (.attention, 3, 49, none), some (.attention, 3, 25, none)]
    ∧ (after .linkGrant (passAt (.visiting (v (.inFunction 1 (some 1)))) flagged)).sched.attentionPasses
      = 1 := by decide +kernel

/-- The probes of a sweep, of start-up, enumeration and recovery, and of a guard reprobe: the first
address, one in progress, and one whose hold has been taken. -/
theorem witness_LinkGrantIssuesTheNextTransaction_probes :
    let held : Nat → Activity → State → State := fun a act s =>
      s.setStn a { silent with holder := some act }
    let p : Nat → ProbeStep → Probe := fun a step => { Probe.start a with step := step }
    let two := (monitoring.setStn 5 silent).setStn 7 silent
    let enum : ProbeWalk → State := fun w => let s := inState .enumerating 5 live
      { s with mon := { s.mon with enumeration := some w, params := { s.mon.params with stationMask := 0x14 } } }
    let again : ProbeWalk → State := fun w => let s := watching 0 silent none
      { s with mon := { s.mon with guardReprobe := some w } }
    let walk : Nat → Option Probe → ProbeWalk := fun last p => { last := last, probe := p }
    ((two.stn 5).holder = none ∧ (two.stn 5).reprobeAt = some 0 ∧ (two.mon.time - 0).toNat < 2 ^ 31
      ∧ (two.stn 3).plan ≠ { fns := 0, attn := 0 } ∧ ∀ b ∈ List.range' 4 9, (two.stn b).state ≠ .adopted)
    ∧ [sweepAt (.after 3) two, sweepAt (.reprobesAfter 5) two,
        sweepAt (.probing (p 5 .id1)) (held 5 .sweep two),
        sweepAt (.probing (p 5 .id1)) (held 5 .job two),
        sweepAt (.probing (p 5 .control)) (held 5 .sweep two),
        enum (walk 0 none), held 3 .enumeration (enum (walk 2 (some (p 3 .status)))),
        enum (walk 2 (some (p 3 .status))),
        recovering (.probing (walk 0 none)) none false, again (walk 0 none),
        held 1 .guardReprobe (again (walk 0 (some (p 1 .id1))))].map sent
      = [some (.sweep, 5, 0, none), some (.sweep, 7, 0, none), some (.sweep, 5, 1, none),
        some (.sweep, 7, 0, none), some (.sweep, 5, 3, some 0x1000),
        some (.enumeration, 3, 0, none), some (.enumeration, 3, 2, none),
        some (.enumeration, 5, 0, none), some (.recovery, 1, 0, none),
        some (.guardReprobe, 1, 0, none),
        some (.guardReprobe, 1, 1, none)] := by
  decide +kernel

theorem witness_PrimitivesRunAndReport :
    (let s := recovering .releaseRound none false
     s.mon.state = .recovering ∧ s.mon.recovery = some { stage := .releaseRound, reason := .lineStuck }
     ∧ s.bus.txn = none ∧ s.bus.primitive = none)
    ∧ (recovering .broadcastReset none true).bus.datLow = true
    ∧ (recovering .releaseRound (some { kind := .release, discard := true }) true).bus.primitive
      = some { kind := .release, discard := true }
    ∧ (recovering .broadcastReset (some { kind := .broadcastSettle, discard := false }) false).bus.primitive
      = some { kind := .broadcastSettle, discard := false }
    ∧ (after (.startCheckTimeout true)
        (recovering .broadcastReset (some { kind := .broadcastStartCheck, discard := false }) true)).mon.rounds
      = 1 := by decide +kernel

/-- Guard start-up at its broadcast reset, with a primitive and a level of DB_DAT. -/
def starting (p : Option Primitive) (low : Bool) : State :=
  { live with
    mon := { live.mon with guardStage := some (.startup false none) }
    bus := { live.bus with primitive := p, datLow := low } }

/-- The recovery of a stage in guard line recovery. -/
def guardLine (stage : RecoveryStage) (p : Option Primitive) (low : Bool) : State :=
  { live with
    mon := { live.mon with
      guardStage := some .lineRecovery, lineFaulted := true
      recovery := some { stage := stage, reason := .lineStuck } }
    bus := { live.bus with primitive := p, datLow := low } }

/-- Start-up: granted, settled, not sent with LINE_STUCK reported before and at that moment; guard line
recovery: a release round granted and its report. -/
theorem witness_PrimitivesRunAndReport_guard :
    let check : Option Primitive := some { kind := .broadcastStartCheck, discard := false }
    let settle : Option Primitive := some { kind := .broadcastSettle, discard := false }
    let stuck : State := let s := starting check true
      { s with bus := { s.bus with stuckReported := true } }
    let fails := fun s => let t := after (.startCheckTimeout true) s
      (t.mon.guardStage, t.mon.rounds, t.mon.lineFaulted, t.bus.primitive, t.bus.stuckReported)
    ((starting check true).mon.guardActive = true ∧ (starting check true).mon.recovery = none
      ∧ (starting check true).bus.txn = none)
    ∧ (after .linkGrant (starting none false)).bus.primitive = settle
    ∧ (after .linkGrant (starting none true)).bus.primitive = check
    ∧ (after .broadcastResetSettleEnd (starting settle false)).mon.guardStage = some (.startup true none)
    ∧ fails (starting check true) = (some .lineRecovery, 1, true, none, true)
    ∧ fails stuck = (some .lineRecovery, 1, true, none, true)
    ∧ (after .linkGrant (guardLine .releaseRound none true)).bus.primitive
      = some { kind := .release, discard := false }
    ∧ ((after .releaseSequenceEnd
        (guardLine .releaseRound (some { kind := .release, discard := false }) false)).mon.recovery.map
          Recovery.stage = some .broadcastReset) := by decide +kernel

/-- Primitives left behind, in STOPPED and after a START: their ends do nothing, and the start check that
times out reports LINE_STUCK alone. -/
theorem witness_PrimitivesRunAndReport_discarded :
    let left : PrimitiveKind → MonitorState → State := fun k m => let s := inState m 5 live
      { s with bus := { s.bus with primitive := some { kind := k, discard := true }, datLow := true } }
    let seen := fun c s => let t := after c s
      (t.mon.state, t.bus.primitive, t.bus.stuckReported, t.mon.rounds)
    let checked := [MonitorState.stopped, .enumerating, .monitoring].map fun m =>
      seen (.startCheckTimeout true) (left .broadcastStartCheck m)
    (∀ m ∈ [MonitorState.stopped, .enumerating, .monitoring],
      seen .releaseSequenceEnd (left .release m) = (m, none, false, 0)
      ∧ seen .broadcastResetSettleEnd (left .broadcastSettle m) = (m, none, false, 0))
    ∧ checked = [(.stopped, none, true, 0), (.recovering, none, true, 1), (.recovering, none, true, 1)]
    ∧ answersNext .lineMonitorStuck (recovering .broadcastReset none true) = true := by decide +kernel

theorem witness_AttemptsEndAndAreCounted :
    let x := statusRead 12 .sweep
    ((onBus x monitoring).bus.txn = some x ∧ x.phase = .awaiting ∧ x.second = false
      ∧ judgeResponse x.data.isNone [] = .corrupt ∧ 1 ≤ x.address ∧ x.address ≤ 12)
    ∧ judgeResponse x.data.isNone (StationDevice.ackRead 0x8001) = .goodAck 0x8001
    ∧ judgeResponse x.data.isNone StationDevice.nak = .goodNak
    ∧ ({ x with second := true }).second = true
    ∧ ({ x with phase := .startCheck }).phase = .startCheck
    ∧ (after .dbDatLow monitoring).bus.datLow = true := by decide +kernel

theorem witness_CountedOutcomesMoveTheStation :
    let x := statusRead 3 .sweep
    let s := onBus x monitoring
    (s.bus.txn = some x ∧ x.phase = .awaiting ∧ 1 ≤ x.address ∧ x.address ≤ 12
      ∧ (s.stn x.address).state = .adopted ∧ ∀ p w, x.purpose ≠ .probeStep p w)
    ∧ (judgeResponse x.data.isNone (StationDevice.ackRead 0x13) = .goodAck 0x13
      ∧ Runs (.responseReceived (StationDevice.ackRead 0x13)) s
        (after (.responseReceived (StationDevice.ackRead 0x13)) s))
    ∧ (judgeResponse x.data.isNone StationDevice.nak = .goodNak
      ∧ Runs (.responseReceived StationDevice.nak) s (after (.responseReceived StationDevice.nak) s))
    ∧ (let y := onBus { x with second := true } (monitoring.setStn 3 { adopted with missCount := 2 })
       Runs .responseWindowExpiry y (after .responseWindowExpiry y) ∧ 2 ≤ (y.stn 3).missCount)
    ∧ (let y := onBus { x with second := true } (monitoring.setStn 3 { adopted with missCount := 1 })
       Runs .responseWindowExpiry y (after .responseWindowExpiry y) ∧ (y.stn 3).missCount < 2) := by
  refine ⟨⟨rfl, rfl, by decide, by decide, by decide +kernel, (fun p w h => by cases h)⟩,
    ⟨by decide +kernel, runs_of (by decide +kernel)⟩, ⟨by decide +kernel, runs_of (by decide +kernel)⟩,
    ⟨runs_of (by decide +kernel), by decide +kernel⟩, runs_of (by decide +kernel), by decide +kernel⟩

/-- R86 and R87: the notes of a STATUS read that shows RESET_DONE and FAULT, in their order. -/
theorem witness_CountedOutcomesMoveTheStation_notes :
    let notes : Activity → BitVec 16 → List (Source × List Nat) := fun act d => (after (.responseReceived (StationDevice.ackRead d))
      (onBus (statusRead 3 act) monitoring)).ring.eventWrites.map fun w =>
        (w.record.source,
          [w.record.before.toNat, w.record.after.toNat, w.record.detail.toNat, w.record.value.toNat])
    notes .sweep 0x30 = [(.station 3, [2, 2, 15, 2]), (.station 3, [2, 2, 8, 2])]
    ∧ notes .job 0x10 = [(.station 3, [2, 2, 15, 2])] ∧ notes .attention 0x2F = [(.station 3, [2, 2, 8, 2])]
    ∧ notes .sweep 0x0F = [] := by decide +kernel

/-- R85: the last point of function 1 read by a visit of the sweep or of a pass; a function with a
point left, one not read whole, and one raised again. -/
theorem witness_CountedOutcomesMoveTheStation_owed :
    let q := fun again => { adopted with owed := 6, raisedAgain := again, plan := { fns := 2, attn := 2 } }
    let v : Bool → Visit := fun all => { Visit.start 3 with stage := .inFunction 1 none, allDone := all }
    let x := fun act p => { statusRead 3 act with register := 25, purpose := .readingRead 1 p none }
    let sweep := fun p all again (s : State) => let u := onBus (x .sweep p) (s.setStn 3 (q again))
      { u with sched := { u.sched with sweep := some { beginTime := 4, position := .visiting (v all) } } }
    let pass : State := let u := onBus (x .attention 1) (monitoring.setStn 3 (q 0))
      { u with sched := { u.sched with pass := some { position := .visiting (v true), foundFlag := true } } }
    let none_ := let u := sweep 0 false 0 (monitoring.setChan 31 (bound 4 1 1 false .normal))
      onBus { statusRead 3 .sweep with register := 49, purpose := .qualityRead 1 } u
    let c := Instr.responseReceived (StationDevice.ackRead 0)
    let owed := fun s => ((after c s).stn 3).owed
    [sweep 1 true 0 monitoring, pass, none_].map owed = [4, 4, 4]
    ∧ [sweep 0 true 0 monitoring, sweep 1 false 0 monitoring, sweep 1 true 2 monitoring].map owed
      = [6, 6, 6]
    ∧ (let y := sweep 1 true 0 monitoring
       ((after .responseWindowExpiry (onBus { x .sweep 1 with second := true } y)).stn 3).owed = 6)
    ∧ (∀ s ∈ [sweep 1 true 0 monitoring, pass, none_], (s.stn 3).state = .adopted
        ∧ (s.stn 3).raisedAgain.getLsbD 1 = false ∧ s.bus.txn.map Transaction.orphan = some false)
    ∧ judgeResponse true (StationDevice.ackRead 0) = .goodAck 0 := by decide +kernel

/-- R105, R133, R92: reads of a FRESH_READ, of a guard poll and of an activity that has ended leave the
owed flags; R87: the note of a guard poll's STATUS read. -/
theorem witness_CountedOutcomesMoveTheStation_others :
    let q := { adopted with owed := 3 }
    let s := fun x => onBus x ((watching 100 adopted (some (poll .poll))).setStn 1 q)
    let x := fun act orphan => { statusRead 1 act with
      register := 16, purpose := .readingRead 0 0 none, orphan := orphan }
    let c := Instr.responseReceived (StationDevice.ackRead 0)
    (∀ y ∈ [x .guardPoll false, x .job false, x .sweep true, x .attention true],
      ((s y).stn 1).state = .adopted ∧ answersNext c (s y) = true ∧ ((after c (s y)).stn 1).owed = 3)
    ∧ (s (x .guardPoll false)).mon.guardPoll.map GuardPoll.stage = some .poll
    ∧ ((after (.responseReceived (StationDevice.ackRead 0x21)) (s (statusRead 1 .guardPoll))).ring.eventWrites.map
        fun w => (w.record.source, w.record.detail)) = [(.station 1, 8)] := by decide +kernel

theorem witness_ReadingReachesItsChannel :
    let tag := fun q => { channel := 31, generation := 1, quality := q, fault := false : ReadingTag }
    let x := fun q => { statusRead 3 .sweep with
      register := 25, purpose := .readingRead 1 1 (some (tag q)) }
    let s := fun q => onBus (x q) monitoring
    let c := Instr.responseReceived (StationDevice.ackRead 1210)
    ((s (some .valid)).bus.txn = some (x (some .valid)) ∧ (x (some .valid)).phase = .awaiting
      ∧ (x (some .valid)).data = none ∧ judgeResponse true (StationDevice.ackRead 1210) = .goodAck 1210
      ∧ Runs c (s (some .valid)) (after c (s (some .valid))))
    ∧ ((x none).data = none ∧ Runs c (s none) (after c (s none))) := by
  refine ⟨⟨rfl, rfl, rfl, by decide +kernel, runs_of (by decide +kernel)⟩, rfl, runs_of (by decide +kernel)⟩

/-- A probe step of the sweep on the bus, held by it. -/
def probing (step : ProbeStep) (second : Bool) (q : Station) : State :=
  let p : Probe := { address := 3, step := step, written := { fns := 2, attn := 0 } }
  let x := { statusRead 3 .sweep with
    register := 0, purpose := .probeStep step p.written, second := second }
  let s := onBus x (monitoring.setStn 3 { q with holder := some .sweep })
  { s with sched := { s.sched with sweep := some { beginTime := 4, position := .probing p } } }

/-- The rows of the table of R72, and the ends of the ranges of R68 and R69. -/
theorem witness_ProbeOutcomesByTheTable :
    let next := fun c s => ((after c s).stn 3).state
    let reply := fun d => Instr.responseReceived (StationDevice.ackRead d)
    ((probing .id0 true silent).bus.txn.map Transaction.second = some true
      ∧ ((probing .id0 true silent).stn 3).holder = some .sweep)
    ∧ next .responseWindowExpiry (probing .id0 true silent) = .silent
    ∧ next .responseWindowExpiry (probing .id0 true adopted) = .absent
    ∧ next .responseWindowExpiry (probing .id1 true adopted) = .silent
    ∧ next .responseWindowExpiry (probing .status true silent) = .silent
    ∧ next .responseWindowExpiry (probing .control true Station.reset) = .absent
    ∧ next (.responseReceived StationDevice.nak) (probing .status false silent) = .rejected
    ∧ next (reply 0x0603) (probing .id0 false silent) = .rejected
    ∧ next (reply 0x0503) (probing .id0 false silent) = .silent
    ∧ next (reply 0x0003) (probing .id0 false silent) = .rejected
    ∧ next (reply 0x0042) (probing .id1 false silent) = .silent
    ∧ next (reply 0x0092) (probing .id1 false silent) = .rejected
    ∧ next (reply 0x0041) (probing .id1 false silent) = .rejected
    ∧ next (reply 0x0000) (probing .status false silent) = .adopted := by decide +kernel

theorem witness_EnumerationAndRecoveryEnd :
    let up := inState .enumerating 0 live
    let s := faulted 0 (inState .recovering 0 live)
    let lost := s.setChan 31 (bound 3 1 1 true .unreachable)
    (up.mon.lineFaulted = false)
    ∧ (s.mon.lineFaulted = true ∧ s.mon.state ≠ .guarding ∧ s.trip.latch = .clear
      ∧ ∀ n < 128, (s.chan n).isMember = false)
    ∧ ((lost.chan 31).isMember = true ∧ (lost.chan 31).condition = .unreachable
      ∧ ∀ m < 31, (lost.chan m).isMember = false)
    ∧ live.mon.state = .guarding := by decide +kernel

/-- The state with a probe step of address `a` on the bus, held by its activity. -/
def probeOn (a : Nat) (act : Activity) (step : ProbeStep) (s : State) : State :=
  onBus { statusRead a act with
      purpose := .probeStep step { fns := 0, attn := 0 }, second := true }
    (s.setStn a { silent with holder := some act })

/-- The walk at the probe of an address. -/
def walkAt (a : Nat) (step : ProbeStep) : ProbeWalk :=
  ProbeWalk.at_ { Probe.start a with step := step }

/-- An enumeration of addresses 3 and 5 at the probe of one. -/
def enumAt (a : Nat) (step : ProbeStep) : State :=
  let s := inState .enumerating 5 live
  probeOn a .enumeration step { s with mon := { s.mon with
    enumeration := some (walkAt a step), params := { s.mon.params with stationMask := 0x14 } } }

/-- The probes of the first and of the last masked address: ended by a class of 6, a MISSED and a NAK,
and going on; and the adoption of station 1 in start-up, guard line recovery and a reprobe. -/
theorem witness_EnumerationAndRecoveryEnd_probes :
    let reply := fun d => Instr.responseReceived (StationDevice.ackRead d)
    let nak := Instr.responseReceived StationDevice.nak
    let back : State := let s := inState .recovering 5 live
      probeOn 12 .recovery .status { s with mon := { s.mon with
        recovery := some { stage := .probing (walkAt 12 .status), reason := .lineStuck } } }
    let line := probeOn 1 .recovery .status (guardLine (.probing (walkAt 1 .status)) none false)
    let up : State := probeOn 1 .guardStartup .status { startup with mon := { startup.mon with
      guardStage := some (.startup true (some { Probe.start 1 with step := .status })) } }
    let again : State := let s := watching 7 silent none
      probeOn 1 .guardReprobe .status { s with mon := { s.mon with guardReprobe := some (walkAt 1 .status) } }
    let watched := fun s => let t := after (reply 0) s; (t.mon.guardStage, t.mon.nextGuardPoll, t.mon.lineFaulted)
    (∀ s ∈ [enumAt 3 .id0, enumAt 5 .status, back, line, up, again],
      s.bus.txn.map (fun x => (x.phase, x.orphan, x.second)) = some (.awaiting, false, true)
      ∧ s.bus.txn.map Transaction.activity = s.bus.txn.bind fun x => (s.stn x.address).holder)
    ∧ (judgeResponse true (StationDevice.ackRead 0x0603) = .goodAck 0x0603
      ∧ judgeResponse true StationDevice.nak = .goodNak)
    ∧ (∀ c ∈ [reply 0x0603, .responseReceived []],
        (after c (enumAt 3 .id0)).mon.enumeration = some { last := 3, probe := none })
    ∧ (after (reply 0x0503) (enumAt 3 .id0)).mon.enumeration = some (walkAt 3 .id1)
    ∧ (after (reply 0x0042) (enumAt 3 .id1)).mon.enumeration = some (walkAt 3 .control)
    ∧ (after nak (enumAt 5 .status)).mon.state = .monitoring
    ∧ (after .responseWindowExpiry back).mon.state = .monitoring
    ∧ [line, up, again].map watched = [(some .watching, some 0, false), (some .watching, some 0, false),
        (some .watching, some 7, false)] := by
  decide +kernel

/-- STOP with a transaction of each activity, with each hold and with a primitive on the bus. -/
theorem witness_StopEndsTheWork_bus :
    let stop := fun s => after .stop (asks [5] s)
    let orphaned := fun s => (stop s).bus.txn.map fun x => { x with orphan := false, activity := .sweep }
    let job := withRescan 2 (some (Probe.start 3)) monitoring
    let guarded := onBus (statusRead 1 .guardPoll) monitoring
    let held := fun a act s => State.setStn s a { silent with holder := some act }
    let swept := sweepAt (.probing (Probe.start 4)) (held 4 .sweep (held 3 .job job))
    let back := held 6 .recovery (recovering (.probing (walkAt 6 .id1)) none false)
    let run := recovering .releaseRound (some { kind := .release, discard := false }) true
    (∀ s ∈ [enumAt 3 .id1, swept, back, run], (asks [5] s).Accepts (record [5]) .stop
      ∧ (asks [5] s).JobLaw)
    ∧ (∀ act ∈ [Activity.sweep, .attention, .job],
        (stop (onBus (statusRead 3 act) job)).bus.txn = some { statusRead 3 act with orphan := true })
    ∧ (stop guarded).bus.txn = some (statusRead 1 .guardPoll)
    ∧ (orphaned (enumAt 3 .id1) = (enumAt 3 .id1).bus.txn.map fun x => { x with activity := .sweep })
    ∧ [(stop (enumAt 3 .id1)).stn 3, (stop swept).stn 3, (stop swept).stn 4, (stop back).stn 6].map
        Station.holder = [none, none, none, none]
    ∧ ((stop (held 5 .job (held 6 .recovery back))).stn 5).holder = some .job
    ∧ (stop run).bus.primitive = some { kind := .release, discard := true } := by
  refine ⟨?_, by decide +kernel, by decide +kernel, by decide +kernel, by decide +kernel,
    by decide +kernel, by decide +kernel⟩
  intro s hs
  simp only [List.mem_cons, List.not_mem_nil, or_false] at hs
  rcases hs with rfl | rfl | rfl | rfl <;>
    exact ⟨accepts_of (by decide +kernel), jobLaw_of (by decide +kernel)⟩

/-- Entry to RECOVERING with two trip members, of ADOPTED station 3 and of a station that is not: no cause,
and only the mark of the first goes. -/
theorem witness_EntryToRecovering_members :
    let m := (monitoring.setChan 30 (bound 3 1 0 true .normal)).setChan 29 (bound 2 1 0 true .unreachable)
    let s := { latched .rearmWait m with trip := { (latched .rearmWait m).trip with marks := 3 <<< 29 } }
    let t := s.enterRecovering .collectiveSilence
    (s.JobLaw ∧ s.mon.guardActive = false ∧ s.mon.lineFaulted = false)
    ∧ [29, 30].map (fun n => ((s.chan n).isMember, (s.chan n).condition))
      = [(true, .unreachable), (true, .normal)]
    ∧ t.trip = { s.trip with faultStart := some 5, marks := 1 <<< 29 } :=
  ⟨⟨jobLaw_of (by decide +kernel), by decide +kernel, by decide +kernel⟩, by decide +kernel,
    by decide +kernel⟩

/-- Entry to RECOVERING with a transaction of each activity and with each hold; the second RESCAN in the
queue keeps its hold, and so does the guard reprobe. -/
theorem witness_EntryToRecovering_bus :
    let enter := fun s : State => s.enterRecovering .lineStuck
    let job := withRescan 2 (some (Probe.start 3)) monitoring
    let queued := withJob 2 .rescan (.link 0) (some (.rescan 0x20 { last := 0, probe := some (Probe.start 6) })) job
    let held := fun a act s => State.setStn s a { silent with holder := some act }
    let swept := sweepAt (.probing (Probe.start 4))
      (held 7 .guardReprobe (held 6 .job (held 4 .sweep (held 3 .job queued))))
    let guarded := onBus (statusRead 1 .guardPoll) (watching 0 adopted (some (poll .poll)))
    (swept.JobLaw ∧ (enumAt 3 .id1).JobLaw ∧ guarded.JobLaw)
    ∧ (∀ act ∈ [Activity.sweep, .attention, .job],
        (enter (onBus (statusRead 3 act) job)).bus.txn = some { statusRead 3 act with orphan := true })
    ∧ (∀ act ∈ [Activity.job, .enumeration, .guardPoll, .guardReprobe],
        (enter (onBus (statusRead 3 act) monitoring)).bus.txn = some (statusRead 3 act))
    ∧ ((enter guarded).bus.txn = some { statusRead 1 .guardPoll with orphan := true }
      ∧ guarded.mon.guardActive = true)
    ∧ (enter (enumAt 3 .id1)).bus.txn = (enumAt 3 .id1).bus.txn.map (fun x => { x with orphan := true })
    ∧ ((enter (enumAt 3 .id1)).stn 3).holder = none
    ∧ [3, 4, 6, 7].map (fun a => ((enter swept).stn a).holder)
      = [none, none, some .job, some .guardReprobe]
    ∧ (enter monitoring).bus.txn = none := by
  refine ⟨⟨jobLaw_of ?_, jobLaw_of ?_, jobLaw_of ?_⟩, ?_, ?_, ?_, ?_, ?_, ?_, ?_⟩ <;> decide +kernel

/-- DB_DAT held low by a station. -/
def lineLow (s : State) : State := { s with bus := { s.bus with datLow := true } }

/-- A stuck line in every monitor state. -/
theorem witness_StuckLineIsReportedOnce :
    let walk : RecoveryStage := .probing { last := 0, probe := none }
    (∀ s ∈ [lineLow (inState .stopped 0 live), lineLow monitoring, lineLow (inState .enumerating 0 live),
        recovering .releaseRound none true, recovering walk none true, lineLow (watching 0 adopted none)],
      s.bus.txn = none ∧ s.bus.primitive = none ∧ s.bus.datLow = true ∧ s.bus.stuckReported = false)
    ∧ ((recovering walk none true).mon.recovery.map Recovery.stage = some walk)
    ∧ ((watching 0 adopted none).mon.guardActive = true
      ∧ (watching 0 adopted none).mon.guardStage = some .watching
      ∧ (watching 0 adopted none).mon.guardReprobe = none)
    ∧ monitoring.bus.datLow = false := by decide +kernel

/-- Probes given up at a stuck line: in recovery, in guard line recovery, in guard start-up and in a
guard reprobe. -/
theorem witness_StuckLineIsReportedOnce_probes :
    let p : Nat → Probe := fun a => { Probe.start a with step := .id1 }
    let walk : Nat → RecoveryStage := fun a => .probing (ProbeWalk.at_ (p a))
    let held := fun a act s => lineLow (State.setStn s a { silent with holder := some act })
    let back := held 3 .recovery (recovering (walk 3) none true)
    let line := held 1 .recovery (guardLine (walk 1) none true)
    let up := held 1 .guardStartup { startup with mon := { startup.mon with
      guardStage := some (.startup true (some (p 1))) } }
    let again : State := let s := watching 0 silent none
      held 1 .guardReprobe { s with mon := { s.mon with guardReprobe := some (ProbeWalk.at_ (p 1)) } }
    let seen := fun a s => let t := after .lineMonitorStuck s
      ((State.stn t a).holder, t.mon.recovery.map Recovery.stage, t.mon.rounds, t.mon.guardReprobe)
    (∀ s ∈ [back, line, up, again], s.linkIdle = true ∧ s.bus.datLow = true
      ∧ s.bus.stuckReported = false)
    ∧ seen 3 back = (none, some .releaseRound, 1, none)
    ∧ [line, up, again].map (seen 1) = [(none, some .releaseRound, 1, none),
        (none, some .releaseRound, 1, none), (none, some .releaseRound, 1, none)]
    ∧ (up.mon.guardActive = true ∧ again.mon.guardActive = true) := by decide +kernel

theorem witness_WireLevelsAreSeen :
    (monitoring.bus.txn = none ∧ monitoring.bus.primitive = none ∧ monitoring.bus.attnLow = false)
    ∧ (onBus (statusRead 3 .sweep) monitoring).bus.txn = some (statusRead 3 .sweep)
    ∧ (statusRead 3 .sweep).phase = .awaiting
    ∧ (onBus { statusRead 3 .sweep with phase := .startCheck } monitoring).bus.txn.map Transaction.phase
      = some .startCheck
    ∧ (recovering .broadcastReset (some { kind := .broadcastStartCheck, discard := false }) true).bus.primitive
      = some { kind := .broadcastStartCheck, discard := false }
    ∧ (after .dbAttnAsserted monitoring).bus.attnLow = true
    ∧ (after .dbAttnAsserted monitoring).sched.attnStuck = false
    ∧ ({ monitoring.sched with attnStuck := true }).attnStuck = true := by decide +kernel

end Sys2Proof.Tests
end

section
/-! ## Judging a value: the proofs about the limits (R4, R10 to R12) -/

namespace Sys2Proof.Machine

/-! ### Optional limits -/

@[simp] theorem enabledAnd_iff {limit : Option Count} {p : Count → Bool} :
    enabledAnd limit p = true ↔ ∃ x, limit = some x ∧ p x = true := by
  cases limit <;> simp [enabledAnd]

@[simp] theorem absentOr_iff {limit : Option Count} {p : Count → Bool} :
    absentOr limit p = true ↔ ∀ x, limit = some x → p x = true := by
  cases limit <;> simp [absentOr]

/-- An absent limit releases a hold; an enabled one releases it where the opposite test fails. -/
theorem absentOr_eq_not_enabledAnd (limit : Option Count) (p q : Count → Bool)
    (h : ∀ x, p x = !q x) : absentOr limit p = !enabledAnd limit q := by
  cases limit <;> simp [absentOr, enabledAnd, h]

/-! ### Choosing the first condition whose test passes -/

/-- The common shape of every judgement outside CRITICAL: two alarm tests in order, else NORMAL. -/
def firstOf (p : Bool) (a : Condition) (q : Bool) (b : Condition) : Condition :=
  if p then a else if q then b else .normal

theorem firstOf_spec {p q : Bool} {P Q : Prop} (hp : p = true ↔ P) (hq : q = true ↔ Q)
    (a b : Condition) :
    (P → firstOf p a q b = a) ∧ (¬ P → Q → firstOf p a q b = b)
      ∧ (¬ P → ¬ Q → firstOf p a q b = .normal) := by
  obtain rfl := propext hp
  obtain rfl := propext hq
  exact ⟨fun h => if_pos h, fun h k => (if_neg h).trans (if_pos k),
    fun h k => (if_neg h).trans (if_neg k)⟩

theorem firstOf_ne_critical {a b : Condition} (ha : a ≠ .critical) (hb : b ≠ .critical)
    (p q : Bool) : firstOf p a q b ≠ .critical := by
  cases p
  · cases q
    · exact Condition.noConfusion
    · exact hb
  · exact ha

/-! ### The tests of a value against one alarm limit -/

/-- Above the high limit, without hysteresis. -/
def aboveHigh (f : Format) (l : Limits) (v : Int) : Bool := enabledAnd l.high fun c => f.value c < v

/-- Below the low limit, without hysteresis. -/
def belowLow (f : Format) (l : Limits) (v : Int) : Bool := enabledAnd l.low fun c => v < f.value c

/-- Above the high limit less the hysteresis: HIGH_ALARM is held. -/
def holdsHigh (f : Format) (l : Limits) (v : Int) : Bool :=
  enabledAnd l.high fun c => f.minus c l.hysteresis < v

/-- Below the low limit plus the hysteresis: LOW_ALARM is held. -/
def holdsLow (f : Format) (l : Limits) (v : Int) : Bool :=
  enabledAnd l.low fun c => v < f.plus c l.hysteresis

section
variable {f : Format} {l : Limits} {v : Int}

theorem aboveHigh_iff : aboveHigh f l v = true ↔ ∃ x, l.high = some x ∧ f.value x < v := by
  simp [aboveHigh]

theorem belowLow_iff : belowLow f l v = true ↔ ∃ x, l.low = some x ∧ v < f.value x := by
  simp [belowLow]

theorem holdsHigh_iff : holdsHigh f l v = true ↔
    ∃ x, l.high = some x ∧ max f.least (f.value x - l.hysteresis.toNat) < v := by
  simp only [holdsHigh, enabledAnd_iff, decide_eq_true_eq]
  rfl

theorem holdsLow_iff : holdsLow f l v = true ↔
    ∃ x, l.low = some x ∧ v < min f.greatest (f.value x + l.hysteresis.toNat) := by
  simp only [holdsLow, enabledAnd_iff, decide_eq_true_eq]
  rfl

/-! ### The critical tests (R10) -/

theorem entersCritical_iff : entersCritical f l v = true ↔
    (∃ x, l.criticalHigh = some x ∧ f.value x ≤ v)
      ∨ (∃ x, l.criticalLow = some x ∧ v ≤ f.value x) := by
  simp [entersCritical]

theorem leavesCritical_iff : leavesCritical f l v = true ↔
    (∀ x, l.criticalHigh = some x → v < max f.least (f.value x - l.hysteresis.toNat))
      ∧ (∀ x, l.criticalLow = some x → min f.greatest (f.value x + l.hysteresis.toNat) < v) := by
  simp only [leavesCritical, Bool.and_eq_true, absentOr_iff, decide_eq_true_eq]
  rfl

/-! ### What each present condition becomes -/

theorem judge_critical_of_stays (h : ¬ leavesCritical f l v = true) :
    judge f l .critical v = .critical := if_neg h

theorem judge_critical_of_leaves (h : leavesCritical f l v = true) :
    judge f l .critical v = firstOf (holdsHigh f l v) .highAlarm (holdsLow f l v) .lowAlarm :=
  if_pos h

theorem judge_of_enters {c : Condition} (hc : c ≠ .critical) (h : entersCritical f l v = true) :
    judge f l c v = .critical := by
  cases c with
  | critical => exact absurd rfl hc
  | _ => exact if_pos h

theorem judge_highAlarm (h : ¬ entersCritical f l v = true) :
    judge f l .highAlarm v = firstOf (holdsHigh f l v) .highAlarm (belowLow f l v) .lowAlarm := by
  have released : (absentOr l.high fun c => v ≤ f.minus c l.hysteresis) = !holdsHigh f l v :=
    absentOr_eq_not_enabledAnd _ _ _ fun x => by simp only [← decide_not, not_lt]
  simp only [judge, if_neg h, released, firstOf, belowLow]
  cases holdsHigh f l v <;> rfl

theorem judge_lowAlarm (h : ¬ entersCritical f l v = true) :
    judge f l .lowAlarm v = firstOf (holdsLow f l v) .lowAlarm (aboveHigh f l v) .highAlarm := by
  have released : (absentOr l.low fun c => f.plus c l.hysteresis ≤ v) = !holdsLow f l v :=
    absentOr_eq_not_enabledAnd _ _ _ fun x => by simp only [← decide_not, not_lt]
  simp only [judge, if_neg h, released, firstOf, aboveHigh]
  cases holdsLow f l v <;> rfl

/-- R12: outside CRITICAL and the two alarms the entry tests decide. -/
theorem judge_of_entryTests {c : Condition} (hc : c ≠ .critical) (hh : c ≠ .highAlarm)
    (hl : c ≠ .lowAlarm) (h : ¬ entersCritical f l v = true) :
    judge f l c v = firstOf (aboveHigh f l v) .highAlarm (belowLow f l v) .lowAlarm := by
  cases c with
  | critical => exact absurd rfl hc
  | highAlarm => exact absurd rfl hh
  | lowAlarm => exact absurd rfl hl
  | _ => exact if_neg h

theorem judge_ne_critical {c : Condition} (hc : c ≠ .critical)
    (h : ¬ entersCritical f l v = true) : judge f l c v ≠ .critical := by
  by_cases hh : c = .highAlarm
  · rw [hh, judge_highAlarm h]
    exact firstOf_ne_critical (by decide) (by decide) _ _
  by_cases hl : c = .lowAlarm
  · rw [hl, judge_lowAlarm h]
    exact firstOf_ne_critical (by decide) (by decide) _ _
  rw [judge_of_entryTests hc hh hl h]
  exact firstOf_ne_critical (by decide) (by decide) _ _

theorem judge_eq_critical_iff {c : Condition} (hc : c ≠ .critical) :
    judge f l c v = .critical ↔ entersCritical f l v = true :=
  ⟨fun h => by_contra fun k => judge_ne_critical hc k h, judge_of_enters hc⟩

end

/-- Settles O16, by the present condition: CRITICAL is left or kept, and elsewhere the first alarm
test that passes decides. -/
theorem conditionIsJudgedByTheLimits : Obligations.ConditionIsJudgedByTheLimits := by
  unfold Obligations.ConditionIsJudgedByTheLimits
  constructor
  · intro f l v h less plus inside high low
    have landing (hi : inside) := judge_critical_of_leaves (leavesCritical_iff.2 hi)
    obtain ⟨toHigh, toLow, toNormal⟩ := firstOf_spec (holdsHigh_iff (f := f) (l := l) (v := v))
      holdsLow_iff .highAlarm .lowAlarm
    exact ⟨fun hi => judge_critical_of_stays (mt leavesCritical_iff.1 hi),
      fun hi hh => (landing hi).trans (toHigh hh),
      fun hi hh hl => (landing hi).trans (toLow hh hl),
      fun hi hh hl => (landing hi).trans (toNormal hh hl),
      fun c hc => (judge_eq_critical_iff hc).trans entersCritical_iff⟩
  · intro f l v h above below heldHigh heldLow noHigh noLow
    have outside : ¬ entersCritical f l v = true :=
      mt entersCritical_iff.1 (not_or.2 ⟨noHigh, noLow⟩)
    obtain ⟨high, highToLow, highToNormal⟩ :=
      judge_highAlarm outside ▸ firstOf_spec holdsHigh_iff belowLow_iff .highAlarm .lowAlarm
    obtain ⟨low, lowToHigh, lowToNormal⟩ :=
      judge_lowAlarm outside ▸ firstOf_spec holdsLow_iff aboveHigh_iff .lowAlarm .highAlarm
    refine ⟨high, highToLow, highToNormal, low, lowToHigh, lowToNormal, fun c hc => ?_⟩
    have other : c ≠ .critical ∧ c ≠ .highAlarm ∧ c ≠ .lowAlarm := by
      refine ⟨?_, ?_, ?_⟩ <;> rintro rfl <;> simp at hc
    obtain ⟨notCritical, notHigh, notLow⟩ := other
    rw [judge_of_entryTests notCritical notHigh notLow outside]
    exact firstOf_spec aboveHigh_iff belowLow_iff .highAlarm .lowAlarm

end Sys2Proof.Machine
end

section
/-! ## The protective trip: what its operations do, the trip requests (R57, R58) and the resets
(R61, R62) -/

namespace Sys2Proof.Machine

/-! ### Notices and the trip unit -/

/-- A run of notices changes the event unit and the posted events alone. -/
theorem State.notifyAll_events (ns : List Notice) (s : State) : ∃ e w p l,
    ns.foldl State.notify s = { s with evt := e, ring := { s.ring with
      eventWrites := w, eventTail := p, eventLap := l } } := by
  induction ns generalizing s with
  | nil => exact ⟨s.evt, s.ring.eventWrites, s.ring.eventTail, s.ring.eventLap, rfl⟩
  | cons n ns ih =>
    obtain ⟨e, w, p, l, h⟩ := ih (s.notify n)
    exact ⟨e, w, p, l, h.trans (by rw [s.notify_eq n])⟩

theorem State.setTrip_drainList (u : TripUnit) (b : List Entry) (s : State) :
    (s.setTrip u).drainList b = (s.drainList b).setTrip u := by
  induction b generalizing s with
  | nil => rfl
  | cons e es ih =>
    have post : (s.setTrip u).canPost = s.canPost := rfl
    unfold State.drainList
    rw [post]
    split
    · exact ih (s.post e)
    · rfl

/-- The event unit does not see the trip unit. -/
theorem State.setTrip_notify (s : State) (u : TripUnit) (n : Notice) :
    (s.setTrip u).notify n = (s.notify n).setTrip u := by
  simp only [State.notify, State.drain, apply_ite (fun t : State => t.setTrip u),
    ← State.setTrip_drainList]
  rfl

/-- The notice of a change of the latch that carries the first cause (R51). -/
def State.latchNotice (s : State) (before after : Latch) : Notice :=
  s.tripNotice before after s.trip.firstCause.1 s.trip.firstCause.2

theorem State.latchNotice_eq (s : State) (before after : Latch) :
    s.latchNotice before after =
      { source := .trip, generation := 0, before := byteOf before.code, after := byteOf after.code
        detail := byteOf (s.trip.cause.elim 0 fun c => c.kind.code)
        value := (s.trip.cause.elim 0 CauseRecord.source).setWidth 16
        time := s.mon.time, classUrgent := false } := by
  unfold State.latchNotice TripUnit.firstCause
  cases s.trip.cause <;> rfl

/-! ### Raising a cause (R50) -/

section
variable {s : State} (k : CauseKind) (b : Byte)

theorem State.raiseCause_of_clear (h : s.trip.latch = .clear) :
    s.raiseCause k b = (s.notify (s.tripNotice .clear .tripped k.code b)).setTrip { s.trip with
      latch := .tripped
      cause := some { kind := k, source := b, time := s.mon.time, count := 1 } } := by
  unfold State.raiseCause
  rw [h]
  exact s.setTrip_notify _ _

theorem State.raiseCause_of_tripped (h : s.trip.latch = .tripped) :
    s.raiseCause k b = s.setTrip { s.trip with cause := s.trip.cause.map CauseRecord.again } := by
  unfold State.raiseCause
  rw [h]

theorem State.raiseCause_of_rearmWait (h : s.trip.latch = .rearmWait) :
    s.raiseCause k b = (s.notify (s.tripNotice .rearmWait .tripped k.code b)).setTrip { s.trip with
      latch := .tripped, cause := s.trip.cause.map CauseRecord.again
      marks := 0, guardQualified := false } := by
  unfold State.raiseCause
  rw [h]
  exact s.setTrip_notify _ _

/-- Whatever latch a cause finds, it hands some notices and leaves the latch TRIPPED. -/
theorem State.raiseCause_notifies (s : State) (k : CauseKind) (b : Byte) : ∃ ns u,
    s.raiseCause k b = (List.foldl State.notify s ns).setTrip u ∧ u.latch = .tripped := by
  cases h : s.trip.latch with
  | clear => exact ⟨[_], _, State.raiseCause_of_clear k b h, rfl⟩
  | tripped => exact ⟨[], _, State.raiseCause_of_tripped k b h, h⟩
  | rearmWait => exact ⟨[_], _, State.raiseCause_of_rearmWait k b h, rfl⟩

@[simp] theorem State.raiseCause_latch (s : State) (k : CauseKind) (b : Byte) :
    (s.raiseCause k b).trip.latch = .tripped := by
  obtain ⟨ns, u, raised, tripped⟩ := s.raiseCause_notifies k b
  rw [raised]
  exact tripped

end

/-! ### The release test (R60) -/

theorem State.releasePasses_iff (s : State) : s.releasePasses = true ↔
    s.mon.lineFaulted = false ∧ (s.mon.guardActive = false ∨ s.trip.guardQualified = true)
      ∧ ∀ n < 128, (s.chan n).isMember = true → s.qualified n = true := by
  simp [State.releasePasses, channelNumbers, Config.channelCount, and_assoc, or_iff_not_imp_left]

theorem State.releaseTest_of_passes {s : State} (hl : s.trip.latch = .rearmWait)
    (hp : s.releasePasses = true) : s.releaseTest =
      (s.notify (s.latchNotice .rearmWait .clear)).setTrip { s.trip with latch := .clear } := by
  unfold State.releaseTest
  rw [if_pos ⟨hl, hp⟩]
  exact s.setTrip_notify _ _

theorem State.releaseTest_of_fails {s : State} (hp : ¬ s.releasePasses = true) :
    s.releaseTest = s := if_neg fun h => hp h.2

theorem State.releaseTest_of_latch {s : State} (hl : s.trip.latch ≠ .rearmWait) :
    s.releaseTest = s := if_neg fun h => hl h.1

theorem State.releaseTest_latch_of_passes {s : State} (hl : s.trip.latch = .rearmWait)
    (hp : s.releasePasses = true) : s.releaseTest.trip.latch = .clear := by
  rw [State.releaseTest_of_passes hl hp]
  rfl

/-! ### Guard (R55, R56) -/

/-- A VALID guard reading at the guard limit or above trips. -/
theorem State.guardReading_latch_of_hot (s : State) {v : Count} (h : 1760 ≤ v.toInt) :
    (s.guardReading v true).trip.latch = .tripped := by
  have hot : s.guardReading v true = (s.raiseCause .guardHot 1).clearGuardMark := if_pos h
  rw [hot]
  exact s.raiseCause_latch _ _

theorem State.guardLost_latch (s : State) : s.guardLost.trip.latch = .tripped :=
  s.raiseCause_latch _ _

/-- In REARM_WAIT a VALID guard reading below the guard limit releases the latch, where the link is
not faulted and every member is qualified. -/
theorem State.guardReading_releases {s : State} {v : Count} (h : v.toInt < 1760)
    (hl : s.trip.latch = .rearmWait) (up : s.mon.lineFaulted = false)
    (members : ∀ n < 128, (s.chan n).isMember = true → s.qualified n = true) :
    (s.guardReading v true).trip.latch = .clear := by
  have below : ¬ Config.guardLimit ≤ v.toInt := not_le.2 h
  have cool : s.guardReading v true
      = (s.setTrip { s.trip with guardQualified := true }).releaseTest :=
    (if_neg below).trans (if_pos hl)
  rw [cool]
  exact State.releaseTest_latch_of_passes hl ((State.releasePasses_iff _).2 ⟨up, .inr rfl, members⟩)

/-- A guard reading does not take the latch out of TRIPPED. -/
theorem State.guardReading_latch_of_tripped {s : State} (hl : s.trip.latch = .tripped) (v : Count) :
    (s.guardReading v true).trip.latch = .tripped := by
  by_cases h : 1760 ≤ v.toInt
  · exact s.guardReading_latch_of_hot h
  · have cool : s.guardReading v true = s :=
      (if_neg h).trans (if_neg (by rw [hl]; decide))
    rw [cool, hl]

/-! ### The end of guard (R138) -/

theorem State.endGuardWork_lineFaulted (s : State) :
    s.endGuardWork.mon.lineFaulted = s.mon.lineFaulted := by
  unfold State.endGuardWork
  simp only [State.discardPrimitive_keeps, State.setMon_mon]
  split <;> split <;> simp

theorem State.endRecovery_lineFaulted (s : State) :
    s.endRecovery.mon.lineFaulted = s.mon.lineFaulted := by
  simp [State.endRecovery]

/-- The state in which the end of guard reaches the trip unit: all work for guard has ended,
and guard is not active. -/
def State.guardOver (s : State) : State :=
  let s1 := s.endGuardPoll.endGuardWork.endRecovery
  s1.setMon { s1.mon with guardActive := false, guardStage := none, rosterComplete := false }

theorem State.endGuard_trip (s : State) : s.endGuard.trip = s.guardOver.tripGuardEnded.trip := rfl

@[simp] theorem State.guardOver_trip (s : State) : s.guardOver.trip = s.trip := by
  simp [State.guardOver]

@[simp] theorem State.guardOver_chan (s : State) : s.guardOver.chan = s.chan := by
  simp [State.guardOver]

@[simp] theorem State.guardOver_lineFaulted (s : State) :
    s.guardOver.mon.lineFaulted = s.mon.lineFaulted := by
  simp [State.guardOver, State.endGuardWork_lineFaulted, State.endRecovery_lineFaulted,
    State.endGuardPoll]

/-- In REARM_WAIT the end of guard releases the latch, where the link is not faulted and every member
is qualified. -/
theorem State.endGuard_releases {s : State} (hl : s.trip.latch = .rearmWait)
    (up : s.mon.lineFaulted = false)
    (members : ∀ n < 128, (s.chan n).isMember = true → s.qualified n = true) :
    s.endGuard.trip.latch = .clear := by
  rw [s.endGuard_trip]
  refine State.releaseTest_latch_of_passes (by simpa [State.clearGuardMark] using hl)
    ((State.releasePasses_iff _).2 ⟨s.guardOver_lineFaulted.trans up, .inl rfl, ?_⟩)
  simpa [State.clearGuardMark, State.qualified] using members

/-- The end of guard does not take the latch out of TRIPPED. -/
theorem State.endGuard_latch_of_tripped {s : State} (hl : s.trip.latch = .tripped) :
    s.endGuard.trip.latch = .tripped := by
  have latch : s.guardOver.clearGuardMark.trip.latch = .tripped := by
    simpa [State.clearGuardMark] using hl
  rw [s.endGuard_trip, State.tripGuardEnded,
    State.releaseTest_of_latch (by rw [latch]; decide), latch]

/-! ### Resets (R61, R62) -/

theorem State.reset_chan (n : Nat) : State.reset.chan n = Channel.reset := by
  by_cases h : n < 128
  · simp [State.chan, State.reset, h]
  · exact State.reset.chan_above (by omega)

/-- Settles O3: the state after the reset is the one the statement writes out, and a guard cause
trips from any latch. -/
theorem powerOnResetsTheTrip : Obligations.PowerOnResetsTheTrip := by
  unfold Obligations.PowerOnResetsTheTrip
  intro s
  exact ⟨_, rfl, rfl, rfl, rfl, rfl, rfl, rfl, rfl,
    fun _ hot => State.guardReading_latch_of_hot _ hot, State.guardLost_latch _⟩

theorem State.controllerReset_chan (s : State) (n : Nat) :
    s.controllerReset.chan n = Channel.reset :=
  State.reset_chan n

/-- Both ways to a controller reset differ in the PCIe port alone (R182, R185). -/
theorem runs_controllerReset {s : State} {c : Instr}
    (h : c = .pcieReset ∨ ∃ w : BitVec 32, c = .controlReset w ∧ w.getLsbD 1 = true) :
    ∃ p, Runs c s (s.controllerReset.setPcie p) := by
  rcases h with rfl | ⟨w, rfl, hw⟩
  · exact ⟨_, rfl⟩
  · have reset : s.controlWrite w = s.controllerReset := if_pos hw
    exact ⟨s.pcie, congrArg Host.Outcome.next reset⟩

/-- Settles O4: no channel is bound after the reset, so the release test waits for guard alone. -/
theorem controllerResetKeepsTheTrip : Obligations.ControllerResetKeepsTheTrip := by
  unfold Obligations.ControllerResetKeepsTheTrip
  intro s c hc
  obtain ⟨p, runs⟩ := runs_controllerReset (s := s) hc
  have unbound : ∀ n, (s.controllerReset.setPcie p).chan n = Channel.reset :=
    s.controllerReset_chan
  have members : ∀ n < 128, ((s.controllerReset.setPcie p).chan n).isMember = true →
      (s.controllerReset.setPcie p).qualified n = true := by
    intro n _ h
    rw [unbound] at h
    cases h
  exact ⟨_, runs, rfl, rfl, rfl, rfl, rfl, rfl, rfl, fun n => by rw [unbound]; rfl,
    fun waiting => ⟨fun _ cool => State.guardReading_releases cool waiting rfl members,
      State.endGuard_releases waiting rfl members⟩,
    fun tripped => ⟨State.guardReading_latch_of_tripped tripped,
      State.endGuard_latch_of_tripped tripped⟩⟩

/-! ### Accepted requests (R147, R149, R152) -/

/-- An accepted request is taken, and then what its kind does is done. -/
theorem State.Accepts.request {s : State} {r : Request} {k : RequestKind} (h : s.Accepts r k)
    (act : Request → State → State) : s.request k act = act r s.take := by
  obtain ⟨st, staged, rfl⟩ := Option.map_eq_some_iff.1 h.staged
  have mon : s.take.mon = s.mon := rfl
  simp only [State.request, State.taking, staged, h.kind, h.taken, State.checked, h.fields, mon,
    h.permitted, h.channel, and_self, if_true, Bool.not_true, Bool.false_eq_true, if_false]

/-- The part after a take whose notices are these, that leaves this trip unit and this completion. -/
def State.answeredWith (s : State) (ns : List Notice) (u : TripUnit) (c : Completion) : State :=
  ((ns.foldl State.notify s.take).setTrip u).complete c

section
variable (s : State) (ns : List Notice) (u : TripUnit) (c : Completion)

@[simp] theorem State.answeredWith_trip : (s.answeredWith ns u c).trip = u := rfl

theorem State.answeredWith_answered : s.Answered (s.answeredWith ns u c) c := by
  obtain ⟨e, w, p, l, h⟩ := State.notifyAll_events ns s.take
  unfold State.answeredWith
  rw [h]
  exact ⟨rfl, rfl, rfl, rfl, rfl, rfl⟩

theorem State.answeredWith_reported : s.Reported (s.answeredWith ns u c) ns := by
  have twins : State.EventTwins s s.take := ⟨⟨rfl, rfl, rfl, rfl⟩, rfl, rfl, rfl⟩
  obtain ⟨unit, writes, tail, lap⟩ := (twins.notifyAll ns).same
  exact ⟨unit, writes, tail, lap⟩

theorem State.answeredWith_frame : s.answeredWith ns u c = { s with
    req := (s.answeredWith ns u c).req, ring := (s.answeredWith ns u c).ring
    trip := (s.answeredWith ns u c).trip, evt := (s.answeredWith ns u c).evt } := by
  obtain ⟨e, w, p, l, h⟩ := State.notifyAll_events ns s.take
  unfold State.answeredWith
  rw [h]
  rfl

end

/-! ### REARM_TRIP (R58) -/

/-- What the release test asks at a rearm itself: no member is bound, guard is not active and the
link is not faulted. -/
def State.Fresh (s : State) : Prop :=
  s.mon.lineFaulted = false ∧ s.mon.guardActive = false ∧ ∀ n < 128, (s.chan n).isMember = false

section
variable {s : State}

/-- A rearm clears every mark and the guard qualification, so the release test right after it passes
only where it asks for none. -/
theorem State.releasePasses_rearmed (ns : List Notice) (now : Time) :
    ((ns.foldl State.notify s).setTrip (s.trip.rearmed now)).releasePasses = true ↔ s.Fresh := by
  obtain ⟨e, w, p, l, h⟩ := State.notifyAll_events ns s
  rw [State.releasePasses_iff, h]
  simp [State.Fresh, State.qualified, TripUnit.rearmed, State.setTrip, State.chan]

theorem State.rearm_of_clear (h : s.trip.latch = .clear) : s.rearm = s := by
  unfold State.rearm
  rw [h]

/-- The notices of a rearm before its release test: a latch found in REARM_WAIT does not change. -/
def State.rearmNotices (s : State) : List Notice :=
  match s.trip.latch with
  | .tripped => [s.latchNotice .tripped .rearmWait]
  | .clear | .rearmWait => []

theorem State.rearmNotices_of_tripped (h : s.trip.latch = .tripped) :
    s.rearmNotices = [s.latchNotice .tripped .rearmWait] := by
  unfold State.rearmNotices
  rw [h]

theorem State.rearmNotices_of_rearmWait (h : s.trip.latch = .rearmWait) : s.rearmNotices = [] := by
  unfold State.rearmNotices
  rw [h]

/-- The state in which the release test of a rearm is made. -/
def State.rearming (s : State) : State :=
  (s.rearmNotices.foldl State.notify s).setTrip (s.trip.rearmed s.mon.time)

theorem State.rearm_of_latched (hl : s.trip.latch ≠ .clear) : s.rearm = s.rearming.releaseTest := by
  cases h : s.trip.latch with
  | clear => exact absurd h hl
  | tripped =>
    unfold State.rearm State.rearming
    rw [State.rearmNotices_of_tripped h, h]
    exact congrArg State.releaseTest (s.setTrip_notify _ _)
  | rearmWait =>
    unfold State.rearm State.rearming
    rw [State.rearmNotices_of_rearmWait h, h]
    rfl

/-- A rearm clears every mark and the guard qualification, so its release test passes only where it
asks for none. -/
theorem State.rearming_releasePasses : s.rearming.releasePasses = true ↔ s.Fresh := by
  obtain ⟨e, w, p, l, events⟩ := State.notifyAll_events s.rearmNotices s
  unfold State.rearming
  rw [State.releasePasses_iff, events]
  simp [State.Fresh, State.qualified, TripUnit.rearmed, State.setTrip, State.chan]

theorem State.rearming_latchNotice : s.rearming.latchNotice .rearmWait .clear
    = s.latchNotice .rearmWait .clear := by
  obtain ⟨e, w, p, l, events⟩ := State.notifyAll_events s.rearmNotices s
  unfold State.rearming
  rw [events]
  rfl

/-- A rearm that finds nothing to wait for releases the latch at once. -/
theorem State.rearm_of_fresh (hl : s.trip.latch ≠ .clear) (hf : s.Fresh) :
    s.rearm = ((s.rearmNotices ++ [s.latchNotice .rearmWait .clear]).foldl State.notify s).setTrip
      { s.trip.rearmed s.mon.time with latch := .clear } := by
  rw [State.rearm_of_latched hl,
    State.releaseTest_of_passes rfl (State.rearming_releasePasses.2 hf),
    State.rearming_latchNotice, State.rearming, State.setTrip_notify, List.foldl_append]
  rfl

theorem State.rearm_of_not_fresh (hl : s.trip.latch ≠ .clear) (hf : ¬ s.Fresh) :
    s.rearm = (s.rearmNotices.foldl State.notify s).setTrip (s.trip.rearmed s.mon.time) :=
  (State.rearm_of_latched hl).trans
    (State.releaseTest_of_fails (mt State.rearming_releasePasses.1 hf))

/-! ### The completions of REARM_TRIP and FORCE_TRIP (R57, R58, R154) -/

/-- The completion of REARM_TRIP or FORCE_TRIP that reports this latch. -/
def Request.reportsLatch (r : Request) (latch : Latch) : Completion :=
  { Request.completion r .ok with stateOrCondition := latch.code }

variable (r : Request)

theorem State.takeRearm_of_clear (hl : s.trip.latch = .clear) :
    s.take.takeRearm r = s.answeredWith [] s.trip
      { Request.completion r .ok with notTripped := true } := by
  unfold State.takeRearm
  rw [State.rearm_of_clear (s := s.take) hl]
  simp only [State.latchCompletion, State.take_trip, hl]
  rfl

/-- From a latch that is not CLEAR, the completion of a REARM_TRIP reports the latch after it. -/
theorem State.takeRearm_of_rearm {ns : List Notice} {u : TripUnit} (hl : s.trip.latch ≠ .clear)
    (h : s.take.rearm = (ns.foldl State.notify s.take).setTrip u) :
    s.take.takeRearm r = s.answeredWith ns u (r.reportsLatch u.latch) := by
  have found : (s.take.trip.latch == .clear) = false := beq_eq_false_iff_ne.2 hl
  unfold State.takeRearm
  rw [h, found]
  rfl

theorem State.takeRearm_of_fresh (hl : s.trip.latch ≠ .clear) (hf : s.Fresh) :
    s.take.takeRearm r = s.answeredWith (s.rearmNotices ++ [s.latchNotice .rearmWait .clear])
      { s.trip.rearmed s.mon.time with latch := .clear } (r.reportsLatch .clear) :=
  State.takeRearm_of_rearm r hl (State.rearm_of_fresh (s := s.take) hl hf)

theorem State.takeRearm_of_not_fresh (hl : s.trip.latch ≠ .clear) (hf : ¬ s.Fresh) :
    s.take.takeRearm r = s.answeredWith s.rearmNotices (s.trip.rearmed s.mon.time)
      (r.reportsLatch .rearmWait) :=
  State.takeRearm_of_rearm r hl (State.rearm_of_not_fresh (s := s.take) hl hf)

theorem State.takeRearm_answers (s : State) : ∃ ns u c,
    s.take.takeRearm r = s.answeredWith ns u c := by
  by_cases hl : s.trip.latch = .clear
  · exact ⟨_, _, _, State.takeRearm_of_clear r hl⟩
  by_cases hf : s.Fresh
  · exact ⟨_, _, _, State.takeRearm_of_fresh r hl hf⟩
  · exact ⟨_, _, _, State.takeRearm_of_not_fresh r hl hf⟩

/-- Every cause leaves the latch TRIPPED, and the completion of a FORCE_TRIP says so. -/
theorem State.takeForce_of_raiseCause {ns : List Notice} {u : TripUnit}
    (h : s.take.raiseCause .forced 0 = (ns.foldl State.notify s.take).setTrip u) :
    s.take.takeForce r = s.answeredWith ns u (r.reportsLatch .tripped) := by
  have tripped : u.latch = .tripped := by
    have latch := s.take.raiseCause_latch .forced 0
    rwa [h] at latch
  unfold State.takeForce
  rw [h, ← tripped]
  rfl

end

/-- Settles O47: the rearm by the latch it finds and by whether its release test asks for anything,
the forced cause by the latch it finds. -/
theorem rearmAndForceActByTheLatch : Obligations.RearmAndForceActByTheLatch := by
  unfold Obligations.RearmAndForceActByTheLatch
  constructor
  · intro s r accepted fresh first source notice rearmed ok
    have runs : Runs .rearmTrip s (s.take.takeRearm r) :=
      congrArg Host.Outcome.next (accepted.request fun r t => t.takeRearm r)
    have waits : s.latchNotice .tripped .rearmWait = notice 1 2 := s.latchNotice_eq _ _
    have releases : s.latchNotice .rearmWait .clear = notice 2 0 := s.latchNotice_eq _ _
    refine ⟨_, runs, ?_, fun clear => ?_, fun tripped => ?_, fun tripped => ?_, fun waiting => ?_,
      fun waiting => ?_⟩
    · obtain ⟨ns, u, c, answers⟩ := s.takeRearm_answers r
      rw [answers]
      exact s.answeredWith_frame ns u c
    · rw [State.takeRearm_of_clear r clear]
      exact ⟨s.answeredWith_answered .., rfl, s.answeredWith_reported ..⟩
    · intro wait
      rw [State.takeRearm_of_not_fresh r (by rw [tripped]; decide) wait,
        State.rearmNotices_of_tripped tripped, waits]
      exact ⟨s.answeredWith_answered .., rfl, rfl, s.answeredWith_reported ..⟩
    · intro pass
      rw [State.takeRearm_of_fresh r (by rw [tripped]; decide) pass,
        State.rearmNotices_of_tripped tripped, waits, releases]
      exact ⟨s.answeredWith_answered .., rfl, rfl, s.answeredWith_reported ..⟩
    · intro wait
      rw [State.takeRearm_of_not_fresh r (by rw [waiting]; decide) wait,
        State.rearmNotices_of_rearmWait waiting]
      exact ⟨s.answeredWith_answered .., rfl, rfl, s.answeredWith_reported ..⟩
    · intro pass
      rw [State.takeRearm_of_fresh r (by rw [waiting]; decide) pass,
        State.rearmNotices_of_rearmWait waiting, releases]
      exact ⟨s.answeredWith_answered .., rfl, rfl, s.answeredWith_reported ..⟩
  · intro s r accepted more notice
    have runs : Runs .forceTrip s (s.take.takeForce r) :=
      congrArg Host.Outcome.next (accepted.request fun r t => t.takeForce r)
    obtain ⟨ns, u, raised, latch⟩ := s.take.raiseCause_notifies .forced 0
    have answers := State.takeForce_of_raiseCause r raised
    refine ⟨_, runs, ?_, ?_, ?_, ?_, fun clear => ?_, fun tripped => ?_, fun waiting => ?_,
      fun _ => rfl⟩
    · rw [answers]
      exact s.answeredWith_answered ..
    · rw [answers]
      exact latch
    · rw [answers, State.tripOut, State.answeredWith_trip, latch]
      rfl
    · rw [answers]
      exact s.answeredWith_frame ..
    · rw [State.takeForce_of_raiseCause (ns := [_]) r (State.raiseCause_of_clear _ _ clear)]
      exact ⟨rfl, s.answeredWith_reported ..⟩
    · rw [State.takeForce_of_raiseCause (ns := []) r (State.raiseCause_of_tripped _ _ tripped)]
      exact ⟨rfl, s.answeredWith_reported ..⟩
    · rw [State.takeForce_of_raiseCause (ns := [_]) r (State.raiseCause_of_rearmWait _ _ waiting)]
      exact ⟨rfl, s.answeredWith_reported ..⟩

end Sys2Proof.Machine
end

section
/-! ## NOP: a take that passes its checks and is answered at once (R147, R149, R155) -/

namespace Sys2Proof.Machine

/-! ### When a request is taken and accepted -/

theorem Request.needsSlot_of_kind {r : Request} {k : RequestKind} (h : Request.kind r = some k) :
    Request.needsSlot r = k.isJob := by
  simp only [Request.needsSlot, h]

/-- The conditions of a take; the free slot is asked of jobs alone (R147, R148). -/
theorem State.canTake_iff {s : State} {r : Request} : s.canTake r = true ↔
    s.ring.iface = .live ∧ s.ring.requestTail ≠ s.ring.requestHead ∧ s.credit = true
      ∧ (Request.needsSlot r = false ∨ s.slotFree = true) := by
  simp only [State.canTake, Bool.and_eq_true, beq_iff_eq, bne_iff_ne, Bool.or_eq_true,
    Bool.not_eq_true', and_assoc]

/-- A NOP is accepted in every monitor state and with any number of jobs in the slots (R150, R155). -/
theorem State.accepts_nop {s : State} {r : Request}
    (staged : s.req.staged.map Staged.record = some r) (kind : Request.kind r = some .nop)
    (fields : Request.fieldsOk r .nop = true) (live : s.ring.iface = .live)
    (holds : s.ring.requestTail ≠ s.ring.requestHead) (credit : s.credit = true) :
    s.Accepts r .nop where
  staged := staged
  kind := kind
  taken :=
    have noSlot : Request.needsSlot r = false := Request.needsSlot_of_kind kind
    State.canTake_iff.2 ⟨live, holds, credit, .inl noSlot⟩
  fields := fields
  permitted := rfl
  channel := rfl

/-! ### A take that is only answered -/

section
variable (s : State) (c : Completion)

/-- A take and its completion are an answer without notices that leaves the trip unit as it is. -/
theorem State.take_complete_eq : s.take.complete c = s.answeredWith [] s.trip c := rfl

/-- A take and its completion reach the request engine and the ring engine alone. -/
theorem State.take_complete_frame : s.take.complete c = { s with
    req := (s.take.complete c).req, ring := (s.take.complete c).ring } := rfl

end

/-- Settles O34: the NOP is accepted, and what follows its take is its completion alone. -/
theorem nopCompletesAtItsTake : Obligations.NopCompletesAtItsTake := by
  unfold Obligations.NopCompletesAtItsTake
  intro s r staged kind fields live holds credit
  have accepted : s.Accepts r .nop := State.accepts_nop staged kind fields live holds credit
  have runs : Runs .nop s (s.take.complete (Request.completion r .ok)) :=
    congrArg Host.Outcome.next (accepted.request fun r t => t.complete (Request.completion r .ok))
  refine ⟨_, runs, ?_, ?_, s.take_complete_frame _⟩
  · rw [State.take_complete_eq]
    exact s.answeredWith_answered ..
  · rw [State.take_complete_eq]
    exact s.answeredWith_reported ..

end Sys2Proof.Machine
end
